-- ==== Sys2Proof/Word.lean ====
section
/-! DEFINITION. The word types of the operation encoding (30_encoding.md R70, R71). Values the block computes with are
naturals (00_scope.md R11), so no other bit vector occurs in the model. -/

namespace Sys2Proof

/-- An operation word: 32 bits, bit 0 the least significant (R9, R70). -/
abbrev OpWord := BitVec 32

/-- The operand field `w[23:0]` of an operation word (R70). -/
abbrev Operand := BitVec 24

/-- The operation code field `w[31:24]` of an operation word (R70). -/
abbrev OpCode := BitVec 8

/-- A step of the comparator's DAC reference, 0 to 31 (10_state.md R26). -/
abbrev DacStep := BitVec 5

end Sys2Proof
end

