-- ==== Sys2Proof/Config.lean ====
section
/-! DEFINITION. What an implementation fixes (00_scope.md R7) and the values the spec leaves unspecified
(10_state.md R41, 93_implementation_defined.md section 2). -/

namespace Sys2Proof

/-- How the drive timer was last configured (10_state.md R24): `CFG_PULSE` or `CFG_PAUSE`. -/
inductive DriveCfg where
  | cfgPulse
  | cfgPause
  deriving DecidableEq, Repr, Inhabited

/-- The decay timer's rate as last configured (10_state.md R29): `PRESC_DECAY_PAUSE` or `PRESC_FULL`. -/
inductive DecayPresc where
  | prescDecayPause
  | prescFull
  deriving DecidableEq, Repr, Inhabited

/-- The parameters of 00_scope.md R7 together with the constraints R7 asks a model to check on them, so that
parameters which break a constraint cannot be built. AW and SW have no field: accumulators and the running sum are
exact naturals (92 D6). -/
structure Params where
  /-- `NR`: slots of each ring. -/
  nr : Nat
  /-- `NB`: raw samples per batch. -/
  nb : Nat
  /-- `EDGE_ARM`: the edge count that arms the gate. -/
  edgeArm : Nat
  /-- `EDGE_CAP`: the edge count that captures the frequency sample. -/
  edgeCap : Nat
  /-- `DW`: width of the decay timer, of raw samples and of ring slots (OPEN, 92 D5). -/
  dw : Nat
  /-- `PCW`: width of PeriodCounter (92 D8). -/
  pcw : Nat
  /-- `PULSE_PERIOD` in native timer units (OPEN, 92 D30). -/
  pulsePeriod : Nat
  /-- `PAUSE_PERIOD` in native timer units (OPEN, 92 D30). -/
  pausePeriod : Nat
  /-- The pulse duration the source gives for `PULSE_PERIOD`, in microseconds (R7 "source default", 92 D34). DESIGN
  CHOICE (log 2): it stands beside the native period and is not related to it, since no conversion is given. -/
  pulseMicros : Nat
  /-- The pause duration the source gives for `PAUSE_PERIOD`, in microseconds; as `pulseMicros` (log 2). -/
  pauseMicros : Nat
  /-- `PRESC_FAST` (OPEN, 92 D30). -/
  prescFast : Nat
  /-- `PRESC_SLOW` (OPEN, 92 D30). -/
  prescSlow : Nat
  /-- `ALIGN_WAIT`: clock ticks of the busy-wait (OPEN, 92 D31). -/
  alignWait : Nat
  /-- `CMPREF_INIT` (OPEN, 92 D24). -/
  cmprefInit : DacStep
  /-- `MARGIN`: the host's sensitivity margin (OPEN, 92 D35); only the host table reads it. -/
  margin : Nat
  /-- `CMP_CHECK_USES_ENABLE` (OPEN, 92 D17). -/
  cmpCheckUsesEnable : Bool
  /-- `EDGE_TEST_BEFORE_INC` (default false, 92 D9). -/
  edgeTestBeforeInc : Bool
  nr_pos : 1 ≤ nr
  nb_pos : 1 ≤ nb
  arm_ne_cap : edgeArm ≠ edgeCap
  dw_pos : 1 ≤ dw
  dw_le : dw ≤ 24
  cap_fits : edgeCap + 1 < 2 ^ pcw
  pulse_ge : 25 ≤ pulsePeriod
  pulse_le : pulsePeriod ≤ 255
  deriving DecidableEq, Repr

/-! ## OPEN parameters without a value (DESIGN CHOICE, log 2)
Constants without a body: no proof can see their value. -/

/-- `CMPREF_INIT`, "OPEN, 0..31" (00_scope.md R7). -/
opaque Config.cmprefInit : DacStep

/-- `PULSE_PERIOD` less 25: the period is "OPEN, 25 <= PULSE_PERIOD <= 255" (00_scope.md R7). Its source default "140µs"
has no given conversion to native units, so the native period is left free (DESIGN CHOICE, log 2). -/
opaque Config.pulsePeriodOver25 : Fin 231

/-- `PAUSE_PERIOD`, OPEN (00_scope.md R7). Its source default "1840µs" has no given conversion to native units, so the
native period is left free (DESIGN CHOICE, log 2). -/
opaque Config.pausePeriod : Nat

/-- `PRESC_FAST`, OPEN (00_scope.md R7). -/
opaque Config.prescFast : Nat

/-- `PRESC_SLOW`, OPEN (00_scope.md R7). -/
opaque Config.prescSlow : Nat

/-- `ALIGN_WAIT`, OPEN (00_scope.md R7). -/
opaque Config.alignWait : Nat

/-- `MARGIN`, OPEN (00_scope.md R7). -/
opaque Config.margin : Nat

/-! ## Free values (log 3) -/

/-- The value `drive_cfg` takes at the `n`-th unspecified reset draw (10_state.md R24, R41). -/
opaque Config.freeDriveCfg : Nat → DriveCfg

/-- The value `dt_presc` takes at the `n`-th unspecified reset draw (10_state.md R29, R41). -/
opaque Config.freeDecayPresc : Nat → DecayPresc

/-- The parameters `State.reset` carries: the source's defaults (00_scope.md R7), the opaque constants above, and
for the two OPEN parameters that decide decoding and dispatch the values of the spec's test vectors, `DW = 16` and
`CMP_CHECK_USES_ENABLE = true` (DESIGN CHOICE, log 1). The source defaults 140µs and 1840µs are held in microseconds; the
native periods stay free (DESIGN CHOICE, log 2). -/
def Params.default : Params where
  nr := 32
  nb := 64
  edgeArm := 19
  edgeCap := 20
  dw := 16
  pcw := 8
  pulsePeriod := 25 + Config.pulsePeriodOver25.val
  pausePeriod := Config.pausePeriod
  pulseMicros := 140
  pauseMicros := 1840
  prescFast := Config.prescFast
  prescSlow := Config.prescSlow
  alignWait := Config.alignWait
  cmprefInit := Config.cmprefInit
  margin := Config.margin
  cmpCheckUsesEnable := true
  edgeTestBeforeInc := false
  nr_pos := by decide
  nb_pos := by decide
  arm_ne_cap := by decide
  dw_pos := by decide
  dw_le := by decide
  cap_fits := by decide
  pulse_ge := Nat.le_add_right 25 _
  pulse_le := by have := Config.pulsePeriodOver25.isLt; omega

end Sys2Proof
end

