-- ==== Sys2Proof/Syntax.lean ====
section
/-! DEFINITION. The operations of 30_encoding.md R72, one constructor per row of spec/opcode_table.json. -/

namespace Sys2Proof

/-- The fifteen operations (R72). The operand of the X form is carried as the whole 24-bit operand field, because
`DW` is a parameter of at most 24; which values are operations is `Instr.wellFormed`. -/
inductive Instr where
  /-- TAKE_T: take the timing mailbox (44 R161). -/
  | takeT
  /-- TAKE_F: take the frequency mailbox (44 R162). -/
  | takeF
  /-- TSMOOTH x: push a raw sample into the timing smoother (43 R141). -/
  | tsmooth (x : Operand)
  /-- FSMOOTH x: push a raw sample into the frequency smoother (43 R145). -/
  | fsmooth (x : Operand)
  /-- SETREF v: write the comparator DAC reference (44 R165). -/
  | setref (v : DacStep)
  /-- RAISE_COIL: the coil-drive timer expires (45 R180). -/
  | raiseCoil
  /-- RAISE_COMP l: a comparator rising edge, `l` the latch choice of a masked edge (45 R181). -/
  | raiseComp (l : Bool)
  /-- RAISE_AUDIO: the audio-tick timer expires (45 R182). -/
  | raiseAudio
  /-- RAISE_MILLIS: the millisecond timer expires (45 R183). -/
  | raiseMillis
  /-- RAISE_SERTX: a serial transmit byte event (45 R184). -/
  | raiseSerTx
  /-- RAISE_SERRX: a serial receive byte event (45 R185). -/
  | raiseSerRx
  /-- RAISE_UNKNOWN: an enabled source outside the six known ones (45 R186). -/
  | raiseUnknown
  /-- DISPATCH: one invocation of the interrupt service routine (45 R187, R188). -/
  | dispatch
  /-- DECAY_TICK g: one count period of the decay timer at gate level `g` (42 R126). -/
  | decayTick (g : Bool)
  /-- RESET: hardware reset (70 R220). -/
  | reset
  deriving DecidableEq, Repr

/-- Who issues an operation (30_encoding.md R74). -/
inductive Issuer where
  | host
  | environment
  deriving DecidableEq, Repr

/-- The issuer column of R72: codes 0x01 to 0x05 are host commands, all others the environment's (R74). -/
def Instr.issuer : Instr → Issuer
  | .takeT => .host
  | .takeF => .host
  | .tsmooth _ => .host
  | .fsmooth _ => .host
  | .setref _ => .host
  | .raiseCoil => .environment
  | .raiseComp _ => .environment
  | .raiseAudio => .environment
  | .raiseMillis => .environment
  | .raiseSerTx => .environment
  | .raiseSerRx => .environment
  | .raiseUnknown => .environment
  | .dispatch => .environment
  | .decayTick _ => .environment
  | .reset => .environment

end Sys2Proof
end

