-- ==== Sys2Proof/WellFormed.lean ====
section
/-! DEFINITION. Which instructions are operations of a block with given parameters (30_encoding.md R71, R73). -/

namespace Sys2Proof

/-- A raw sample of the X form has `DW` bits (R71); every other operand is bounded by its type. -/
def Instr.wellFormed (p : Params) : Instr → Bool
  | .takeT => true
  | .takeF => true
  | .tsmooth x => decide (x.toNat < 2 ^ p.dw)
  | .fsmooth x => decide (x.toNat < 2 ^ p.dw)
  | .setref _ => true
  | .raiseCoil => true
  | .raiseComp _ => true
  | .raiseAudio => true
  | .raiseMillis => true
  | .raiseSerTx => true
  | .raiseSerRx => true
  | .raiseUnknown => true
  | .dispatch => true
  | .decayTick _ => true
  | .reset => true

end Sys2Proof
end

