-- ==== Sys2Proof/Decode.lean ====
section
/-! DEFINITION. The decoder, the encoder and the opcode rows of 30_encoding.md R70 to R73. -/

namespace Sys2Proof

/-- Why a word is an "invalid operation word" (R73). -/
inductive InvalidWord where
  /-- `w[31:24]` is none of the fifteen codes. -/
  | unlistedOp
  /-- An operand bit its form requires to be 0 is 1. -/
  | mustBeZeroBits
  deriving DecidableEq, Repr

/-- `w[31:24]` (R70). -/
def opField (w : OpWord) : OpCode := w.extractLsb' 24 8

/-- `w[23:0]` (R70). -/
def operandField (w : OpWord) : Operand := w.extractLsb' 0 24

/-- Form Z: no operand, `w[23:0]` must be 0 (R71). -/
def formZ (a : Operand) (i : Instr) : Except InvalidWord Instr :=
  if a = 0 then .ok i else .error .mustBeZeroBits

/-- Form X: a `DW`-bit sample, `w[23:DW]` must be 0 (R71). -/
def formX (p : Params) (a : Operand) (i : Operand → Instr) : Except InvalidWord Instr :=
  if a.toNat < 2 ^ p.dw then .ok (i a) else .error .mustBeZeroBits

/-- Form V: a DAC step `w[4:0]`, `w[23:5]` must be 0 (R71). -/
def formV (a : Operand) (i : DacStep → Instr) : Except InvalidWord Instr :=
  if a.extractLsb' 5 19 = 0 then .ok (i (a.extractLsb' 0 5)) else .error .mustBeZeroBits

/-- Form B: one bit `w[0]`, `w[23:1]` must be 0 (R71). -/
def formB (a : Operand) (i : Bool → Instr) : Except InvalidWord Instr :=
  if a.extractLsb' 1 23 = 0 then .ok (i (a.getLsbD 0)) else .error .mustBeZeroBits

/-- The decoder (R72, R73): total on every 32-bit word, refusing every word the table does not give. -/
def decode (p : Params) (w : OpWord) : Except InvalidWord Instr :=
  match opField w with
  | 0x01#8 => formZ (operandField w) .takeT
  | 0x02#8 => formZ (operandField w) .takeF
  | 0x03#8 => formX p (operandField w) .tsmooth
  | 0x04#8 => formX p (operandField w) .fsmooth
  | 0x05#8 => formV (operandField w) .setref
  | 0x10#8 => formZ (operandField w) .raiseCoil
  | 0x11#8 => formB (operandField w) .raiseComp
  | 0x12#8 => formZ (operandField w) .raiseAudio
  | 0x13#8 => formZ (operandField w) .raiseMillis
  | 0x14#8 => formZ (operandField w) .raiseSerTx
  | 0x15#8 => formZ (operandField w) .raiseSerRx
  | 0x16#8 => formZ (operandField w) .raiseUnknown
  | 0x20#8 => formZ (operandField w) .dispatch
  | 0x30#8 => formB (operandField w) .decayTick
  | 0xFF#8 => formZ (operandField w) .reset
  | _ => .error .unlistedOp

/-- What the host of the check asks: the operation decoded from a word of `nbits` bits, at the parameters of
`Params.default` (log 17). Operation words have 32 bits and no later words (R70). -/
def decodeTableWord (nbits w : Nat) : Option Instr :=
  if nbits ≤ 32 ∧ w < 2 ^ nbits then (decode Params.default (BitVec.ofNat 32 w)).toOption else none

/-- The operation code of R72. -/
def Instr.opCode : Instr → OpCode
  | .takeT => 0x01#8
  | .takeF => 0x02#8
  | .tsmooth _ => 0x03#8
  | .fsmooth _ => 0x04#8
  | .setref _ => 0x05#8
  | .raiseCoil => 0x10#8
  | .raiseComp _ => 0x11#8
  | .raiseAudio => 0x12#8
  | .raiseMillis => 0x13#8
  | .raiseSerTx => 0x14#8
  | .raiseSerRx => 0x15#8
  | .raiseUnknown => 0x16#8
  | .dispatch => 0x20#8
  | .decayTick _ => 0x30#8
  | .reset => 0xFF#8

/-- The operand field an operation is encoded with, zero-extended (R71). -/
def Instr.operand : Instr → Operand
  | .takeT => 0
  | .takeF => 0
  | .tsmooth x => x
  | .fsmooth x => x
  | .setref v => v.setWidth 24
  | .raiseCoil => 0
  | .raiseComp l => (BitVec.ofBool l).setWidth 24
  | .raiseAudio => 0
  | .raiseMillis => 0
  | .raiseSerTx => 0
  | .raiseSerRx => 0
  | .raiseUnknown => 0
  | .dispatch => 0
  | .decayTick g => (BitVec.ofBool g).setWidth 24
  | .reset => 0

/-- The operation word of an instruction (R70, R77 "Word encodings"). -/
def encode (i : Instr) : OpWord := i.opCode ++ i.operand

/-- One row of the opcode table: a word is the row's operation when its masked bits are the match value. -/
structure OpcodeRow where
  mask : OpWord
  pattern : OpWord
  deriving DecidableEq, Repr

/-- The X form's mask for general `DW` (the note of opcode_table.json):
`0xFF000000 | (0x00FFFFFF & ~(2^DW - 1))`. -/
def maskX (p : Params) : OpWord :=
  0xFF000000#32 ||| (0x00FFFFFF#32 &&& ~~~(BitVec.ofNat 32 (2 ^ p.dw - 1)))

/-- The rows of opcode_table.json, in its order. -/
def opcodeRows (p : Params) : List OpcodeRow :=
  [⟨0xFFFFFFFF#32, 0x01000000#32⟩, ⟨0xFFFFFFFF#32, 0x02000000#32⟩, ⟨maskX p, 0x03000000#32⟩,
   ⟨maskX p, 0x04000000#32⟩, ⟨0xFFFFFFE0#32, 0x05000000#32⟩, ⟨0xFFFFFFFF#32, 0x10000000#32⟩,
   ⟨0xFFFFFFFE#32, 0x11000000#32⟩, ⟨0xFFFFFFFF#32, 0x12000000#32⟩] ++
  [⟨0xFFFFFFFF#32, 0x13000000#32⟩, ⟨0xFFFFFFFF#32, 0x14000000#32⟩, ⟨0xFFFFFFFF#32, 0x15000000#32⟩,
   ⟨0xFFFFFFFF#32, 0x16000000#32⟩, ⟨0xFFFFFFFF#32, 0x20000000#32⟩, ⟨0xFFFFFFFE#32, 0x30000000#32⟩,
   ⟨0xFFFFFFFF#32, 0xFF000000#32⟩]

end Sys2Proof
end

