-- ==== Sys2Proof/Machine/State.lean ====
section
/-! DEFINITION. The state of the measurement block (10_state.md), why a step can stop, and the state after reset. -/

namespace Sys2Proof.Machine

/-- The controller's phase (10_state.md R22): PULSE_ACTIVE or PULSE_INACTIVE. -/
inductive Phase where
  | pulse
  | pause
  deriving DecidableEq, Repr

/-- The interrupt sources (10_state.md R34, 60_exceptions.md R203). -/
inductive Source where
  | coil
  | comp
  | audio
  | millis
  | serTx
  | serRx
  | unknown
  deriving DecidableEq, Repr

/-- The pending flag of each source (10_state.md R34). -/
structure Pending where
  coil : Bool
  comp : Bool
  audio : Bool
  millis : Bool
  serTx : Bool
  serRx : Bool
  unknown : Bool
  deriving DecidableEq, Repr

/-- `pend[s]` (10_state.md R34). -/
def Pending.get (q : Pending) : Source → Bool
  | .coil => q.coil
  | .comp => q.comp
  | .audio => q.audio
  | .millis => q.millis
  | .serTx => q.serTx
  | .serRx => q.serRx
  | .unknown => q.unknown

/-- `pend[s] <- b` (10_state.md R34). -/
def Pending.set (q : Pending) (b : Bool) : Source → Pending
  | .coil => { q with coil := b }
  | .comp => { q with comp := b }
  | .audio => { q with audio := b }
  | .millis => { q with millis := b }
  | .serTx => { q with serTx := b }
  | .serRx => { q with serRx := b }
  | .unknown => { q with unknown := b }

/-- No source pending: the reset value of every `pend[s]` (10_state.md R41). -/
def Pending.clear : Pending := ⟨false, false, false, false, false, false, false⟩

/-- What a host command delivers to the host (44_host_commands.md R160). -/
inductive Result where
  /-- SETREF returns nothing; also the channel before the first host command. -/
  | nothing
  /-- TAKE_T returns the triple `(valid, count, edges)`. -/
  | timing (valid : Bool) (count edges : Nat)
  /-- TAKE_F returns the pair `(valid, count)`. -/
  | frequency (valid : Bool) (count : Nat)
  /-- TSMOOTH and FSMOOTH return one value. -/
  | value (v : Nat)
  deriving DecidableEq, Repr

/-- The block's state: every element of 10_state.md R22 to R37 (widths are kept by `BlockInv` of Safety.lean), then the
model's own fields: parameters, result channel, operation stream and draw counter. -/
structure State where
  /-- R22. -/
  phase : Phase
  /-- R23: the coil-driver output. -/
  coil : Bool
  /-- R24: `drive_cfg`. -/
  driveCfg : DriveCfg
  /-- R25: the comparator interrupt enable. -/
  cie : Bool
  /-- R26: the comparator's DAC reference. -/
  cmpref : DacStep
  /-- R27: the decay timer's count, `DW` bits. -/
  dtCount : Nat
  /-- R28: the decay timer's run enable. -/
  dtOn : Bool
  /-- R28: the decay timer's gate enable. -/
  dtGate : Bool
  /-- R29: the decay timer's rate. -/
  dtPresc : DecayPresc
  /-- R30: PeriodCounter, `PCW` bits. -/
  pcnt : Nat
  /-- R31: timing mailbox, ready flag. -/
  tReady : Bool
  /-- R31: timing mailbox, TimingSample of `DW` bits. -/
  tCount : Nat
  /-- R31: timing mailbox, captured PeriodCounter of `PCW` bits. -/
  tEdges : Nat
  /-- R32: frequency mailbox, ready flag. -/
  fReady : Bool
  /-- R32: frequency mailbox, FrequencySample of `DW` bits. -/
  fCount : Nat
  /-- R34: `pend[s]`. -/
  pend : Pending
  /-- R35: the `NR` slots of the timing smoother. -/
  ringT : List Nat
  /-- R35: the timing smoother's insertion index. -/
  idxT : Nat
  /-- R35: the timing smoother's batch accumulator. -/
  accT : Nat
  /-- R35: the timing smoother's batch counter. -/
  cntT : Nat
  /-- R35: the last computed maximum. -/
  tmax : Nat
  /-- R36: the `NR` slots of the frequency smoother. -/
  ringF : List Nat
  /-- R36: the frequency smoother's insertion index. -/
  idxF : Nat
  /-- R36: the frequency smoother's batch accumulator. -/
  accF : Nat
  /-- R36: the frequency smoother's batch counter. -/
  cntF : Nat
  /-- R36: the running sum. -/
  fsum : Nat
  /-- R37: set by the fatal fallback, cleared only by RESET. -/
  halted : Bool
  /-- R37: set by the fatal fallback, never cleared. -/
  faultSeen : Bool
  /-- The parameters of 00_scope.md R7; no operation writes them (log 1). -/
  params : Params
  /-- The result channel: what the last host command delivered (44_host_commands.md R160; log 5). -/
  res : Result
  /-- The operation words still to be issued, next first (10_state.md R21, 30_encoding.md R74; log 4). -/
  ops : List OpWord
  /-- How many unspecified reset draws have been made (70_reset_and_hazards.md R220 corner case 4; log 3). -/
  draws : Nat
  deriving DecidableEq, Repr

/-- Why a step can fault. -/
inductive Fault where
  /-- Raised by every operation but RESET while `halted = 1`: the block is stuck until RESET and such an operation
  has no step (10_state.md R37, 45_events_dispatch.md R191). SAFE: the spec gives no step either (log 6). -/
  | halted
  deriving DecidableEq, Repr

/-- Why a step can be refused. -/
inductive Refusal where
  /-- Answered only by `exec`'s arm for an instruction that has no meaning yet (no arm does). SAFE. -/
  | notModelled (mnemonic : String)
  /-- Raised by `step` for a word the decoder refuses, and by TSMOOTH and FSMOOTH for an operand wider than `DW`
  bits, which no valid word carries: "invalid operation word" (30_encoding.md R73). SAFE: such a word spells no
  operation and the block never receives it (log 7). -/
  | invalidOperationWord
  deriving DecidableEq, Repr

/-- The reset state `R0` of 10_state.md R41 for parameters `p`, with the two unspecified elements at the `n`-th draw,
`fault_seen = 0`, an empty result channel and no operation to come. -/
def State.r0 (p : Params) (n : Nat) : State where
  phase := .pause
  coil := false
  driveCfg := Config.freeDriveCfg n
  cie := false
  cmpref := p.cmprefInit
  dtCount := 0
  dtOn := false
  dtGate := false
  dtPresc := Config.freeDecayPresc n
  pcnt := 0
  tReady := false
  tCount := 0
  tEdges := 0
  fReady := false
  fCount := 0
  pend := .clear
  ringT := List.replicate p.nr 0
  idxT := 0
  accT := 0
  cntT := 0
  tmax := 0
  ringF := List.replicate p.nr 0
  idxF := 0
  accF := 0
  cntF := 0
  fsum := 0
  halted := false
  faultSeen := false
  params := p
  res := .nothing
  ops := []
  draws := n + 1

/-- The machine right after reset at the start of a run: `R0` with `fault_seen = 0` (70_reset_and_hazards.md R221). -/
def State.reset : State := .r0 .default 0

/-- The outcome of one operation of the block. -/
abbrev Out := Host.Outcome State Fault Refusal

end Sys2Proof.Machine
end

