-- ==== Sys2Proof/Machine/Ops.lean ====
section
/-! DEFINITION. The named operations shared by the meanings: when an operation has a step, the result channel, the
pending flags, the mailbox captures, and taking the block's one exception. -/

namespace Sys2Proof.Machine

/-- While `halted = 1` no operation but RESET has a step (10_state.md R37, 45_events_dispatch.md R191); otherwise the
operation's effect is the next state (60_exceptions.md R200). -/
def whileRunning (s t : State) : Out := if s.halted then .fault .halted else .next t

/-- `res <- r` (44_host_commands.md R160). -/
def deliver (r : Result) (s : State) : State := { s with res := r }

/-- `pend[src] <- 1` (10_state.md R34). -/
def raise (src : Source) (s : State) : State := { s with pend := s.pend.set true src }

/-- `pend[src] <- 0` (10_state.md R34). -/
def acknowledge (src : Source) (s : State) : State := { s with pend := s.pend.set false src }

/-- The exceptions of the block: exactly one (60_exceptions.md R200). -/
inductive BlockException where
  | fatalUnhandledInterrupt
  deriving DecidableEq, Repr

/-- The cause code of an exception (60_exceptions.md R200, 92 D21). No element records it. -/
def causeCode : BlockException → Nat
  | .fatalUnhandledInterrupt => 1

/-- Taking the exception FatalUnhandledInterrupt (60_exceptions.md R201): it sets the two fault bits and records
nothing else (R200). There is no return from it but RESET, and an interrupt service returns by ending (R206), so no
operation beside this one restores anything. -/
def raiseFatalUnhandledInterrupt (s : State) : State := { s with faultSeen := true, halted := true }

/-- The timing capture of 41_pulse_decay.md R101: "if the timing mailbox is empty, capture the decay timer's current
count and the PeriodCounter value into it and mark it ready"; a full mailbox keeps its sample. -/
def captureTiming (s : State) : State :=
  if s.tReady then s else { s with tCount := s.dtCount, tEdges := s.pcnt, tReady := true }

/-- The frequency capture of 42_edge_counting.md R124: "if the frequency mailbox is empty, capture the gated timer's
count into it, mark ready"; a full mailbox keeps its sample. -/
def captureFrequencySample (s : State) : State :=
  if s.fReady then s else { s with fCount := s.dtCount, fReady := true }

/-- BusyWait of 41_pulse_decay.md R104: it writes no state and produces no result. -/
def busyWait (_ticks : Nat) (s : State) : State := s

/-- What a drive-timer configuration stands for: period and prescaler (60_exceptions.md R209). -/
structure DriveSetting where
  period : Nat
  prescaler : Nat
  deriving DecidableEq, Repr

/-- `CFG_PULSE` = `PULSE_PERIOD` at `PRESC_FAST`, `CFG_PAUSE` = `PAUSE_PERIOD` at `PRESC_SLOW` (10_state.md R24,
60_exceptions.md R209). Recorded only: no rule computes with it. -/
def driveSetting (p : Params) : DriveCfg → DriveSetting
  | .cfgPulse => ⟨p.pulsePeriod, p.prescFast⟩
  | .cfgPause => ⟨p.pausePeriod, p.prescSlow⟩

end Sys2Proof.Machine
end

