-- ==== Sys2Proof/Machine/Operands.lean ====
section
/-! DEFINITION. The operand forms of 30_encoding.md R71 as the machine reads them. Form Z has no operand; the value of a
form V operand (a DAC step) and of a form B operand (one bit) is what the decoder put into the instruction; form X is a
raw sample of `DW` bits. -/

namespace Sys2Proof.Machine

/-- The value of an X operand: unsigned and zero-extended (R71). -/
def sampleValue (x : Operand) : Nat := x.toNat

/-- An X operand is a raw sample only when it fits `DW` bits (R71). -/
def sampleFits (p : Params) (x : Operand) : Bool := decide (sampleValue x < 2 ^ p.dw)

/-- The step of an operation of the X form: an operand wider than `DW` bits belongs to no valid word and is refused
(R73); otherwise the operation acts on the sample's value. -/
def withSample (x : Operand) (s : State) (effect : Nat → State → State) : Out :=
  if sampleFits s.params x then whileRunning s (effect (sampleValue x) s) else .refused .invalidOperationWord

end Sys2Proof.Machine
end

