-- ==== Sys2Proof/Machine/Flags.lean ====
section
/-! DEFINITION. Every computation of a one-bit flag or condition: enables, the interrupt request, the dispatch checks,
the comparator latch and the decay timer's count condition. The block has no condition codes (10_state.md R39). -/

namespace Sys2Proof.Machine

/-- `en(s)`: the comparator's enable is `cie`, every other source is always enabled (45_events_dispatch.md R187). -/
def enabled (s : State) : Source → Bool
  | .comp => s.cie
  | .coil => true
  | .audio => true
  | .millis => true
  | .serTx => true
  | .serRx => true
  | .unknown => true

/-- The known sources in check order (45_events_dispatch.md R188, 60_exceptions.md R203). -/
def checkOrder : List Source := [.coil, .comp, .audio, .millis, .serTx, .serRx]

/-- Every source (10_state.md R34). -/
def allSources : List Source := checkOrder ++ [.unknown]

/-- `irq`: some source is pending and enabled (45_events_dispatch.md R187). -/
def irq (s : State) : Bool := allSources.any fun src => s.pend.get src && enabled s src

/-- `chk(s)`: pending, and for the comparator also enabled when `CMP_CHECK_USES_ENABLE` (45_events_dispatch.md R188). -/
def chk (s : State) (src : Source) : Bool :=
  s.pend.get src && (decide (src ≠ .comp) || (s.cie || !s.params.cmpCheckUsesEnable))

/-- The source a dispatch serves: the first in check order whose check passes (45_events_dispatch.md R188). -/
def selected (s : State) : Option Source := checkOrder.find? (chk s)

/-- `pend[COMP]` after a comparator edge with latch choice `l` (45_events_dispatch.md R181). -/
def compLatch (s : State) (l : Bool) : Bool := if s.cie then true else s.pend.comp || l

/-- Whether a decay-timer count period at gate level `g` counts (42_edge_counting.md R126). -/
def decayCounts (s : State) (g : Bool) : Bool := s.dtOn && (!s.dtGate || g)

end Sys2Proof.Machine
end

