-- ==== Sys2Proof/Machine/Events.lean ====
section
/-! DEFINITION. The raise events (45_events_dispatch.md R180 to R186) and the decay timer's count event
(42_edge_counting.md R126). -/

namespace Sys2Proof.Machine

/-- RAISE_COIL (R180). -/
def execRaiseCoil (s : State) : Out := whileRunning s (raise .coil s)

/-- RAISE_COMP l (R181): an edge latches while enabled, and as its latch choice says while masked. -/
def execRaiseComp (l : Bool) (s : State) : Out :=
  whileRunning s { s with pend := s.pend.set (compLatch s l) .comp }

/-- RAISE_AUDIO (R182). -/
def execRaiseAudio (s : State) : Out := whileRunning s (raise .audio s)

/-- RAISE_MILLIS (R183). -/
def execRaiseMillis (s : State) : Out := whileRunning s (raise .millis s)

/-- RAISE_SERTX (R184). -/
def execRaiseSerTx (s : State) : Out := whileRunning s (raise .serTx s)

/-- RAISE_SERRX (R185). -/
def execRaiseSerRx (s : State) : Out := whileRunning s (raise .serRx s)

/-- RAISE_UNKNOWN (R186): only the flag; the fatal fallback is DISPATCH's. -/
def execRaiseUnknown (s : State) : Out := whileRunning s (raise .unknown s)

/-- One count of the decay timer, modulo `2^DW` (R126, 92 D12). -/
def countDecay (s : State) : State := { s with dtCount := (s.dtCount + 1) % 2 ^ s.params.dw }

/-- DECAY_TICK g (R126). -/
def execDecayTick (g : Bool) (s : State) : Out :=
  whileRunning s (if decayCounts s g then countDecay s else s)

end Sys2Proof.Machine
end

