-- ==== Sys2Proof/Machine/HostCommands.lean ====
section
/-! DEFINITION. The mailbox takes and the comparator reference (44_host_commands.md). -/

namespace Sys2Proof.Machine

/-- TakeT (R161): a full mailbox is delivered and its flag cleared, the contents stay; an empty one delivers zeros. -/
def takeTiming (s : State) : State :=
  if s.tReady then deliver (.timing true s.tCount s.tEdges) { s with tReady := false }
  else deliver (.timing false 0 0) s

/-- TakeF (R162): as TakeT for the frequency mailbox. -/
def takeFrequency (s : State) : State :=
  if s.fReady then deliver (.frequency true s.fCount) { s with fReady := false }
  else deliver (.frequency false 0) s

/-- TAKE_T (R161). -/
def execTakeT (s : State) : Out := whileRunning s (takeTiming s)

/-- TAKE_F (R162). -/
def execTakeF (s : State) : Out := whileRunning s (takeFrequency s)

/-- SETREF (R165): writes the DAC reference and returns nothing (R160). -/
def execSetref (v : DacStep) (s : State) : Out := whileRunning s (deliver .nothing { s with cmpref := v })

end Sys2Proof.Machine
end

