-- ==== Sys2Proof/Machine/Controller.lean ====
section
/-! DEFINITION. The coil-timer service: the pulse/decay timing state machine (41_pulse_decay.md). -/

namespace Sys2Proof.Machine

/-- PulseActiveEntry (R101), in the source's order: the capture reads the count and the PeriodCounter before the
count is set to 0. -/
def pulseActiveEntry (s : State) : State :=
  let stopped := { s with driveCfg := .cfgPulse, dtOn := false, dtGate := false }
  let captured := captureTiming stopped
  { captured with dtCount := 0, coil := true, cie := false, phase := .pulse }

/-- PulseInactiveEntry (R102). `dt_count`, `dt_presc` and `pend[COMP]` are not written. -/
def pulseInactiveEntry (s : State) : State :=
  let aligned := busyWait s.params.alignWait s
  { aligned with
    cie := true, coil := false, dtOn := true, dtGate := false, driveCfg := .cfgPause, pcnt := 0, phase := .pause }

/-- CoilService (R100): the phase selects the entry action, and every service toggles it. -/
def coilService (s : State) : State :=
  match s.phase with
  | .pause => pulseActiveEntry s
  | .pulse => pulseInactiveEntry s

end Sys2Proof.Machine
end

