-- ==== Sys2Proof/Machine/EdgeCounter.lean ====
section
/-! DEFINITION. The comparator-edge service: the decay-edge counting sub-state machine (42_edge_counting.md). -/

namespace Sys2Proof.Machine

/-- PeriodCounter after one more edge, modulo `2^PCW` (R121, 92 D8). -/
def incrementedCount (s : State) : Nat := (s.pcnt + 1) % 2 ^ s.params.pcw

/-- The value EdgeCount returns for comparison (R121): the incremented count, or under `EDGE_TEST_BEFORE_INC` the
count before. -/
def comparedCount (s : State) : Nat := if s.params.edgeTestBeforeInc then s.pcnt else incrementedCount s

/-- ArmGate (R123): gated mode, "without stopping it". -/
def armGate (s : State) : State := { s with dtGate := true }

/-- CaptureFrequency (R124). -/
def captureFrequency (s : State) : State :=
  { captureFrequencySample s with dtCount := 0, dtGate := false, dtOn := true, dtPresc := .prescFull, cie := false }

/-- EdgeService (R120 to R122): count the edge, then act on the compared count. -/
def edgeService (s : State) : State :=
  let c := comparedCount s
  let counted := { s with pcnt := incrementedCount s }
  if c = s.params.edgeArm then armGate counted
  else if c = s.params.edgeCap then captureFrequency counted
  else counted

end Sys2Proof.Machine
end

