-- ==== Sys2Proof/Machine/Interrupts.lean ====
section
/-! DEFINITION. The interrupt service routine (45_events_dispatch.md R187 to R189). -/

namespace Sys2Proof.Machine

/-- ExternalService (R189): the audio, millisecond and serial services lie outside the block and change no state of
it (log 10). -/
def externalService (s : State) : State := s

/-- The service of a source (R188, 60_exceptions.md R203). `unknown` is in no check; its only service is the fatal
fallback. -/
def service (src : Source) (s : State) : State :=
  match src with
  | .coil => coilService s
  | .comp => edgeService s
  | .audio => externalService s
  | .millis => externalService s
  | .serTx => externalService s
  | .serRx => externalService s
  | .unknown => raiseFatalUnhandledInterrupt s

/-- The interrupt routine (R188): clear the pending flag of the one source selected and run its service; when no
check passes, take FatalUnhandledInterrupt. -/
def interruptRoutine (s : State) : State :=
  match selected s with
  | some src => service src (acknowledge src s)
  | none => raiseFatalUnhandledInterrupt s

/-- DISPATCH (R187): with no request nothing changes, otherwise the interrupt routine runs once. -/
def execDispatch (s : State) : Out := whileRunning s (if irq s then interruptRoutine s else s)

end Sys2Proof.Machine
end

