-- ==== Sys2Proof/Machine/Reset.lean ====
section
/-! DEFINITION. RESET (70_reset_and_hazards.md R220). -/

namespace Sys2Proof.Machine

/-- Reset (R220): every element takes its value in `R0` with a fresh draw of the unspecified ones, `halted` is
cleared and `fault_seen` is not written. The parameters, the operations still to come and the result already
delivered are no elements of 10_state.md and stay (log 14). -/
def resetBlock (s : State) : State :=
  { State.r0 s.params s.draws with faultSeen := s.faultSeen, res := s.res, ops := s.ops }

/-- RESET has a step in every state, halted or not (R220, 10_state.md R37). -/
def execReset (s : State) : Out := .next (resetBlock s)

end Sys2Proof.Machine
end

