-- ==== Sys2Proof/Machine/Smoothers.lean ====
section
/-! DEFINITION. The two ring-buffer smoothers (43_smoothers.md). -/

namespace Sys2Proof.Machine

/-- What one batch step leaves: the average when it completes a batch, and the accumulator and counter. -/
structure BatchStep where
  average : Option Nat
  acc : Nat
  cnt : Nat
  deriving DecidableEq, Repr

/-- Batch (R140): add the sample, count it, and at `NB` samples give the truncated average and clear both. -/
def batch (nb acc cnt x : Nat) : BatchStep :=
  if cnt + 1 = nb then ⟨some ((acc + x) / nb), 0, 0⟩ else ⟨none, acc + x, cnt + 1⟩

/-- The insertion index after an insertion: "index reset to 0 when ≥32" (R141, R145). -/
def advance (nr idx : Nat) : Nat := if idx + 1 ≥ nr then 0 else idx + 1

/-- The largest slot of a ring (R142). -/
def ringMax (ring : List Nat) : Nat := ring.foldr max 0

/-- Insertion into the timing ring, index advance and rescan (R141). -/
def insertTiming (avg : Nat) (s : State) : State :=
  let ring := s.ringT.set s.idxT avg
  { s with ringT := ring, idxT := advance s.params.nr s.idxT, tmax := ringMax ring }

/-- Running-sum update, insertion into the frequency ring and index advance (R145, R146). -/
def insertFrequency (avg : Nat) (s : State) : State :=
  { s with
    fsum := s.fsum - s.ringF.getD s.idxF 0 + avg
    ringF := s.ringF.set s.idxF avg
    idxF := advance s.params.nr s.idxF }

/-- TSmooth (R141) up to its result. -/
def pushTiming (x : Nat) (s : State) : State :=
  let b := batch s.params.nb s.accT s.cntT x
  let t := { s with accT := b.acc, cntT := b.cnt }
  match b.average with
  | some avg => insertTiming avg t
  | none => t

/-- FSmooth (R145) up to its result. -/
def pushFrequency (x : Nat) (s : State) : State :=
  let b := batch s.params.nb s.accF s.cntF x
  let t := { s with accF := b.acc, cntF := b.cnt }
  match b.average with
  | some avg => insertFrequency avg t
  | none => t

/-- `res <- tmax` on every call (R141). -/
def returnMaximum (s : State) : State := deliver (.value s.tmax) s

/-- `res <- floor(fsum / NR)` on every call (R145). -/
def returnMean (s : State) : State := deliver (.value (s.fsum / s.params.nr)) s

/-- TSMOOTH x (R141). -/
def execTsmooth (x : Operand) (s : State) : Out :=
  withSample x s fun v t => returnMaximum (pushTiming v t)

/-- FSMOOTH x (R145). -/
def execFsmooth (x : Operand) (s : State) : Out :=
  withSample x s fun v t => returnMean (pushFrequency v t)

end Sys2Proof.Machine
end

