-- ==== Sys2Proof/Machine/Dispatch.lean ====
section
/-! DEFINITION. The one match from an instruction to its meaning. -/

namespace Sys2Proof.Machine

def exec (i : Instr) (s : State) : Host.Outcome State Fault Refusal :=
  match i with
  | .takeT => Sys2Proof.Machine.execTakeT s
  | .takeF => Sys2Proof.Machine.execTakeF s
  | .tsmooth x => Sys2Proof.Machine.execTsmooth x s
  | .fsmooth x => Sys2Proof.Machine.execFsmooth x s
  | .setref v => Sys2Proof.Machine.execSetref v s
  | .raiseCoil => Sys2Proof.Machine.execRaiseCoil s
  | .raiseComp l => Sys2Proof.Machine.execRaiseComp l s
  | .raiseAudio => Sys2Proof.Machine.execRaiseAudio s
  | .raiseMillis => Sys2Proof.Machine.execRaiseMillis s
  | .raiseSerTx => Sys2Proof.Machine.execRaiseSerTx s
  | .raiseSerRx => Sys2Proof.Machine.execRaiseSerRx s
  | .raiseUnknown => Sys2Proof.Machine.execRaiseUnknown s
  | .dispatch => Sys2Proof.Machine.execDispatch s
  | .decayTick g => Sys2Proof.Machine.execDecayTick g s
  | .reset => Sys2Proof.Machine.execReset s

end Sys2Proof.Machine
end

