-- ==== Sys2Proof/Machine/Step.lean ====
section
/-! DEFINITION. One step: the next operation of the stream is decoded and executed. -/

namespace Sys2Proof.Machine

/-- One step. The block does whatever operation its issuers put next in the stream (10_state.md R21, 30_encoding.md
R74); with none there it waits (70_reset_and_hazards.md R221); a word that is no operation is refused by the decoder
(30_encoding.md R73). -/
def step (s : State) : Host.Outcome State Fault Refusal :=
  match s.ops with
  | [] => .next s
  | w :: rest =>
    match decode s.params w with
    | .ok i => exec i { s with ops := rest }
    | .error _ => .refused .invalidOperationWord

/-- `s` with the operation word `w` issued next (log 4). An operation has one 32-bit word (30_encoding.md R70), so a
word of fewer bits has its upper bits 0. -/
def State.withFetchWord (s : State) (_nbits w : Nat) : State :=
  { s with ops := BitVec.ofNat 32 w :: s.ops }

end Sys2Proof.Machine
end

