-- ==== Sys2Proof/Machine/Assembler.lean ====
section
/-! DEFINITION. The assembler of 30_encoding.md R76, R77: text lines to operation words. It is no part of the block; it
says which operation streams the spec's programs stand for (log 16). -/

namespace Sys2Proof.Machine

/-- `;` starts a comment (R76). -/
def dropComment : List Char → List Char
  | [] => []
  | c :: cs => if c = ';' then [] else c :: dropComment cs

/-- What separates the words of a line: blanks, and the comma of `ticks N, G` (R77). -/
def isSeparator (c : Char) : Bool := c = ' ' || c = '\t' || c = ','

/-- The words of a line; `cur` is the word being read, last character first. -/
def splitWords (cur : List Char) : List Char → List String
  | [] => if cur.isEmpty then [] else [String.ofList cur.reverse]
  | c :: cs =>
    if isSeparator c then
      if cur.isEmpty then splitWords [] cs else String.ofList cur.reverse :: splitWords [] cs
    else splitWords (c :: cur) cs

/-- The words of a source line without its comment. -/
def lineWords (line : String) : List String := splitWords [] (dropComment line.toList)

/-- The value of a digit below `base`. -/
def digitValue (base : Nat) (c : Char) : Option Nat :=
  let n := c.toNat
  let v := if 48 ≤ n ∧ n ≤ 57 then n - 48 else if 97 ≤ n ∧ n ≤ 102 then n - 87
    else if 65 ≤ n ∧ n ≤ 70 then n - 55 else base
  if v < base then some v else none

/-- A run of digits in `base`, most significant first, after the value `acc`. -/
def digits (base acc : Nat) : List Char → Option Nat
  | [] => some acc
  | c :: cs => (digitValue base c).bind fun v => digits base (acc * base + v) cs

/-- "An operand is a decimal or 0x hexadecimal natural" (R76). -/
def number (word : String) : Option Nat :=
  match word.toList with
  | [] => none
  | ['0', 'x'] => none
  | '0' :: 'x' :: ds => digits 16 0 ds
  | ds => digits 10 0 ds

/-- An X operand must be below `2^DW`; an assembler refuses one that is not (R76). -/
def sampleOperand (p : Params) (word : String) : Option Operand :=
  (number word).bind fun n => if n < 2 ^ p.dw then some (BitVec.ofNat 24 n) else none

/-- A V operand must be below 32 (R76). -/
def dacOperand (word : String) : Option DacStep :=
  (number word).bind fun n => if n < 32 then some (BitVec.ofNat 5 n) else none

/-- A B operand must be 0 or 1 (R76). -/
def bitOperand (word : String) : Option Bool :=
  (number word).bind fun n => if n < 2 then some (n = 1) else none

/-- One assembled line: operations, or the opening or closing of a repetition (R77). -/
inductive AsmLine where
  | operations (is : List Instr)
  | rep (n : Nat)
  | endr
  deriving DecidableEq, Repr

/-- The line of one operation. -/
def one (i : Instr) : AsmLine := .operations [i]

/-- One line of R76 or R77; `none` where the assembler refuses it. -/
def assembleWords (p : Params) : List String → Option AsmLine
  | [] => some (.operations [])
  | ["take.t"] => some (one .takeT)
  | ["take.f"] => some (one .takeF)
  | ["tsmooth", x] => (sampleOperand p x).map fun v => one (.tsmooth v)
  | ["fsmooth", x] => (sampleOperand p x).map fun v => one (.fsmooth v)
  | ["setref", v] => (dacOperand v).map fun d => one (.setref d)
  | ["raise.coil"] => some (one .raiseCoil)
  | ["raise.comp", b] => (bitOperand b).map fun l => one (.raiseComp l)
  | ["raise.audio"] => some (one .raiseAudio)
  | ["raise.millis"] => some (one .raiseMillis)
  | ["raise.sertx"] => some (one .raiseSerTx)
  | ["raise.serrx"] => some (one .raiseSerRx)
  | ["raise.unknown"] => some (one .raiseUnknown)
  | ["dispatch"] => some (one .dispatch)
  | ["tick", b] => (bitOperand b).map fun g => one (.decayTick g)
  | ["reset"] => some (one .reset)
  | ["coil"] => some (.operations [.raiseCoil, .dispatch])
  | ["edge"] => some (.operations [.raiseComp true, .dispatch])
  | ["ticks", n, b] =>
    (number n).bind fun k => (bitOperand b).map fun g => .operations (List.replicate k (.decayTick g))
  | ["batch.t", x] => (sampleOperand p x).map fun v => .operations (List.replicate p.nb (.tsmooth v))
  | ["batch.f", x] => (sampleOperand p x).map fun v => .operations (List.replicate p.nb (.fsmooth v))
  | [".rep", n] => (number n).map .rep
  | [".endr"] => some .endr
  | _ => none

/-- Lines to operations. `done` is what the innermost open block holds so far and `outer` the repetitions it stands
in, each with the operations before it. -/
def assembleLines (p : Params) (done : List Instr) (outer : List (Nat × List Instr)) :
    List String → Option (List Instr)
  | [] => if outer.isEmpty then some done else none
  | line :: lines =>
    match assembleWords p (lineWords line) with
    | none => none
    | some (.operations is) => assembleLines p (done ++ is) outer lines
    | some (.rep n) => assembleLines p [] ((n, done) :: outer) lines
    | some .endr =>
      match outer with
      | [] => none
      | (n, before) :: rest => assembleLines p (before ++ (List.replicate n done).flatten) rest lines

/-- The operation words of a program's lines (R76, R77). -/
def assemble (p : Params) (lines : List String) : Option (List OpWord) :=
  (assembleLines p [] [] lines).map fun is => is.map encode

end Sys2Proof.Machine
end

