-- ==== Sys2Proof/Machine/HostTable.lean ====
section
/-! DEFINITION. The host table (44_host_commands.md R166, R167; 43_smoothers.md R149). The host is outside the block
(00_scope.md R5); the spec keeps its table "so that a model can state what a host does", and so does this file
(log 15). -/

namespace Sys2Proof.Machine

/-- What the host holds between its steps. A taken sample stands in the list of each step that still has to use it,
oldest first, and leaves it when that step uses it, so each step uses it once (R149, R166). That unused samples wait in
lists of any length is a DESIGN CHOICE (log 15). -/
structure HostContext where
  /-- SoundOn. -/
  soundOn : Bool
  /-- Timing samples taken (H1) and not yet pushed (H2). -/
  timingToPush : List Nat
  /-- Timing samples taken (H1) and not yet tested (H3). -/
  timingToTest : List Nat
  /-- `T_Reference`, as last obtained. -/
  timingReference : Nat
  /-- Frequency samples taken while SoundOn was false (H4) and not yet pushed (H5). -/
  frequencyToPush : List Nat
  /-- `F_Reference`, as last obtained. -/
  frequencyReference : Nat
  deriving DecidableEq, Repr

/-- A step of the host: H1 to H6 of R166, and the liberties of R167. The order of steps is the host's (92 D35), so H3
may stand before or after H2. -/
inductive HostStep where
  | h1
  | h2
  | h3
  | h4
  | h5
  | h6
  /-- Set or clear SoundOn at any time. -/
  | sound (on : Bool)
  /-- Push any value to the timing smoother at any time. -/
  | pushTiming (x : Operand)
  /-- Push any value to the frequency smoother at any time. -/
  | pushFrequency (x : Operand)
  /-- Write any step 0..31 to the comparator reference at any time. -/
  | setReference (v : DacStep)
  /-- Apply RESET after `halted = 1`; while the block runs this step does nothing. -/
  | resetAfterHalt
  deriving DecidableEq, Repr

/-- The block command of a host step (R166, last column; R167), `none` where the step issues none: H2 and H5 push the
oldest sample they still have to push, H5 "and SoundOn is false" only. -/
def hostCommand (c : HostContext) (halted : Bool) : HostStep → Option Instr
  | .h1 => some .takeT
  | .h2 => c.timingToPush.head?.map fun t => .tsmooth (BitVec.ofNat 24 t)
  | .h3 => none
  | .h4 => some .takeF
  | .h5 => if c.soundOn then none else c.frequencyToPush.head?.map fun f => .fsmooth (BitVec.ofNat 24 f)
  | .h6 => none
  | .sound _ => none
  | .pushTiming x => some (.tsmooth x)
  | .pushFrequency x => some (.fsmooth x)
  | .setReference v => some (.setref v)
  | .resetAfterHalt => if halted then some .reset else none

/-- H3's test of a sample: "timing sample plus a fixed sensitivity margin is less than the current timing reference"
(R166). -/
def detects (p : Params) (c : HostContext) (t : Nat) : Bool := decide (t + p.margin < c.timingReference)

/-- H1 with `valid = 1`: the sample is to be pushed by H2 and tested by H3 (R166, R149). -/
def HostContext.takeTiming (c : HostContext) (t : Nat) : HostContext :=
  { c with timingToPush := c.timingToPush ++ [t], timingToTest := c.timingToTest ++ [t] }

/-- H4 with `valid = 1`: a sample taken while SoundOn is false is to be pushed by H5, another never is (R149: "the
frequency samples taken while silent"). -/
def HostContext.takeFrequency (c : HostContext) (f : Nat) : HostContext :=
  if c.soundOn then c else { c with frequencyToPush := c.frequencyToPush ++ [f] }

/-- What the host makes of a delivered result (R160, R166, R167). The sample a completed H2 or H5 pushed is used up. -/
def hostReceive (r : Result) (c : HostContext) : HostStep → HostContext
  | .h1 =>
    match r with
    | .timing true count _ => c.takeTiming count
    | _ => c
  | .h2 =>
    match r with
    | .value v => { c with timingToPush := c.timingToPush.tail, timingReference := v }
    | _ => c
  | .h4 =>
    match r with
    | .frequency true count => c.takeFrequency count
    | _ => c
  | .h5 =>
    match r with
    | .value v => { c with frequencyToPush := c.frequencyToPush.tail, frequencyReference := v }
    | _ => c
  | .pushTiming _ =>
    match r with
    | .value v => { c with timingReference := v }
    | _ => c
  | .pushFrequency _ =>
    match r with
    | .value v => { c with frequencyReference := v }
    | _ => c
  | .h3 => c
  | .h6 => c
  | .sound _ => c
  | .setReference _ => c
  | .resetAfterHalt => c

/-- The host's own part of a step that issues no command: H3 tests the oldest untested sample and uses it up, setting
SoundOn when it detects; SoundOn is set and cleared at will (R167). -/
def hostInternal (p : Params) (c : HostContext) : HostStep → HostContext
  | .h3 =>
    match c.timingToTest with
    | [] => c
    | t :: rest => { c with soundOn := c.soundOn || detects p c t, timingToTest := rest }
  | .sound on => { c with soundOn := on }
  | .h1 => c
  | .h2 => c
  | .h4 => c
  | .h5 => c
  | .h6 => c
  | .pushTiming _ => c
  | .pushFrequency _ => c
  | .setReference _ => c
  | .resetAfterHalt => c

/-- One host step against the block: its command, if any, and what the host makes of the result. -/
def hostTurn (h : HostStep) (c : HostContext) (s : State) : Host.Outcome (HostContext × State) Fault Refusal :=
  match hostCommand c s.halted h with
  | none => .next (hostInternal s.params c h, s)
  | some i =>
    match exec i s with
    | .next t => .next (hostReceive t.res c h, t)
    | .fault f => .fault f
    | .refused r => .refused r

/-! ## Runs of the host with the environment -/

/-- One turn of a run: a step of the host, or an operation the environment issues (30_encoding.md R74). -/
inductive Turn where
  | host (h : HostStep)
  | event (i : Instr)
  deriving DecidableEq, Repr

/-- One turn: the host holds what it held when the environment's operation runs. -/
def takeTurn (u : Turn) (c : HostContext) (s : State) : Host.Outcome (HostContext × State) Fault Refusal :=
  match u with
  | .host h => hostTurn h c s
  | .event i =>
    match exec i s with
    | .next t => .next (c, t)
    | .fault f => .fault f
    | .refused r => .refused r

/-- Turns one after another, stopping at the first that has no step. -/
def hostRun : List Turn → HostContext → State → Host.Outcome (HostContext × State) Fault Refusal
  | [], c, s => .next (c, s)
  | u :: us, c, s =>
    match takeTurn u c s with
    | .next (d, t) => hostRun us d t
    | .fault f => .fault f
    | .refused r => .refused r

/-- What `note` reads before each turn of a run, in order. -/
def record {α : Type} (note : Turn → HostContext → State → List α) : List Turn → HostContext → State → List α
  | [], _, _ => []
  | u :: us, c, s =>
    note u c s ++ match takeTurn u c s with
      | .next (d, t) => record note us d t
      | .fault _ => []
      | .refused _ => []

/-- The timing sample a turn takes: H1 at a full mailbox (R161). -/
def timingTaken (u : Turn) (_ : HostContext) (s : State) : List Nat :=
  if u = .host .h1 ∧ s.tReady = true then [s.tCount] else []

/-- The frequency sample a turn takes while SoundOn is false: H4 at a full mailbox (R162). -/
def frequencyTakenSilent (u : Turn) (c : HostContext) (s : State) : List Nat :=
  if u = .host .h4 ∧ s.fReady = true ∧ c.soundOn = false then [s.fCount] else []

/-- The operand an H2 turn gives TSMOOTH. -/
def timingPushed (u : Turn) (c : HostContext) (s : State) : List Operand :=
  match u with
  | .host .h2 =>
    match hostCommand c s.halted .h2 with
    | some (.tsmooth x) => [x]
    | _ => []
  | _ => []

/-- The operand an H5 turn gives FSMOOTH. -/
def frequencyPushed (u : Turn) (c : HostContext) (s : State) : List Operand :=
  match u with
  | .host .h5 =>
    match hostCommand c s.halted .h5 with
    | some (.fsmooth x) => [x]
    | _ => []
  | _ => []

end Sys2Proof.Machine
end

