-- ==== Sys2Proof/Safety.lean ====
section
/-! DEFINITION. The invariants of 10_state.md R40, the admitted launch states of 70_reset_and_hazards.md R223, and
what a safe state is (60_exceptions.md R201). -/

namespace Sys2Proof.Safety

open Sys2Proof.Machine

/-- Every element lies within its width: the count, the samples and the slots within `DW` bits (10_state.md R27, R31,
R32, R35, R36; R40 item 3), PeriodCounter and its copy within `PCW` bits (R30, R31). -/
abbrev WidthsKept (s : State) : Prop :=
  s.dtCount < 2 ^ s.params.dw ∧ s.tCount < 2 ^ s.params.dw ∧ s.fCount < 2 ^ s.params.dw ∧
  s.pcnt < 2 ^ s.params.pcw ∧ s.tEdges < 2 ^ s.params.pcw ∧
  (∀ v ∈ s.ringT, v < 2 ^ s.params.dw) ∧ (∀ v ∈ s.ringF, v < 2 ^ s.params.dw)

/-- The rings have `NR` slots, and every index and batch counter is in range (R40 item 1). -/
abbrev IndicesInRange (s : State) : Prop :=
  s.ringT.length = s.params.nr ∧ s.ringF.length = s.params.nr ∧
  s.idxT < s.params.nr ∧ s.idxF < s.params.nr ∧ s.cntT < s.params.nb ∧ s.cntF < s.params.nb

/-- The batch accumulators hold at most the samples counted so far (R40 item 2). -/
abbrev AccumulatorsBounded (s : State) : Prop :=
  s.accT ≤ s.cntT * (2 ^ s.params.dw - 1) ∧ s.accF ≤ s.cntF * (2 ^ s.params.dw - 1)

/-- The running sum is the sum of the slots (R40 item 4). -/
abbrev RunningSumExact (s : State) : Prop := s.fsum = s.ringF.sum

/-- The last computed maximum is the maximum of the slots (R40 item 5, 43_smoothers.md R142). -/
abbrev MaximumExact (s : State) : Prop := s.tmax = ringMax s.ringT

/-- In the pulse phase the coil is driven and the comparator masked, and, when the dispatcher's comparator check uses
the enable, the decay timer is stopped at 0 (R40 item 6). -/
abbrev PulseQuiet (s : State) : Prop :=
  s.phase = .pulse →
    s.coil = true ∧ s.cie = false ∧
    (s.params.cmpCheckUsesEnable = true → s.dtOn = false ∧ s.dtGate = false ∧ s.dtCount = 0)

/-- In the pause phase the coil is not driven (R40 item 7). -/
abbrev PauseUndriven (s : State) : Prop := s.phase = .pause → s.coil = false

/-- The invariant of every operation: items 1 to 7 of R40 with the widths. -/
abbrev BlockInv (s : State) : Prop :=
  WidthsKept s ∧ IndicesInRange s ∧ AccumulatorsBounded s ∧ RunningSumExact s ∧ MaximumExact s ∧
  PulseQuiet s ∧ PauseUndriven s

/-- The largest edge count one pause can reach (R40 item 8). -/
def edgeCeiling (p : Params) : Nat := if p.edgeTestBeforeInc then p.edgeCap + 1 else p.edgeCap

/-- R40 item 8 with the fact its own reason rests on: while edges are still served (`cie = 1`) the ceiling has not been
reached. -/
abbrev EdgeCountLimited (s : State) : Prop :=
  s.pcnt ≤ edgeCeiling s.params ∧ (s.cie = true → s.pcnt < edgeCeiling s.params)

/-- A state a run may be launched in (70_reset_and_hazards.md R223): items 1 to 7 of R40, not halted, no fault. -/
abbrev LaunchAdmitted (s : State) : Prop := BlockInv s ∧ s.halted = false ∧ s.faultSeen = false

/-- No fatal fallback has happened: the premise 60_exceptions.md R201 gives every claim about a run. -/
abbrev NoFault (s : State) : Prop := s.faultSeen = false

/-- A run of the block: operations one after another, each on the state the one before left (20_memory.md R57),
stopping at the first that has no step. -/
def execAll : List Instr → State → Out
  | [], s => .next s
  | i :: is, s =>
    match exec i s with
    | .next t => execAll is t
    | .fault f => .fault f
    | .refused r => .refused r

end Sys2Proof.Safety
end

