-- ==== Sys2Proof/Certificates/Slice0/Obligations.lean ====
section
/-! DEFINITION. The statements for the provers. Each docstring names the rule or section of spec/ it formalises. An
equation whose right side is a record update of the state before is the frame too: every element the update does not
name is unchanged. -/

open Sys2Proof Sys2Proof.Machine Sys2Proof.Safety

/-! ## Encoding -/

/-- 30_encoding.md sections 1 and 2: no bit of an operation is lost by its word, for all parameters. -/
def Obligations.DecodeOfEncodeIsIdentity : Prop :=
  ∀ (p : Params) (i : Instr), i.wellFormed p = true → decode p (encode i) = .ok i

/-- 30_encoding.md sections 1 and 2: a valid word is the word of the operation it decodes to, so each operation has
one word. -/
def Obligations.EncodeOfDecodeIsIdentity : Prop :=
  ∀ (p : Params) (w : OpWord) (i : Instr), decode p w = .ok i → encode i = w ∧ i.wellFormed p = true

/-- 30_encoding.md R73: which words are valid, what they decode to, and that the others are refused by name. The codes
and must-be-zero bits are written as arithmetic on the word's value, `w[31:24]` and `w[23:0]`. -/
def Obligations.ValidWordsAreTheListedOnesAndOthersAreRefused : Prop :=
  ∀ (p : Params) (w : OpWord),
    ((∃ i, decode p w = .ok i) ↔
      (w.toNat / 2 ^ 24 ∈ [0x01, 0x02, 0x10, 0x12, 0x13, 0x14, 0x15, 0x16, 0x20, 0xFF] ∧ w.toNat % 2 ^ 24 = 0) ∨
      (w.toNat / 2 ^ 24 ∈ [0x03, 0x04] ∧ w.toNat % 2 ^ 24 < 2 ^ p.dw) ∨
      (w.toNat / 2 ^ 24 = 0x05 ∧ w.toNat % 2 ^ 24 < 32) ∨
      (w.toNat / 2 ^ 24 ∈ [0x11, 0x30] ∧ w.toNat % 2 ^ 24 < 2)) ∧
    (∀ i, decode p w = .ok i →
      i.opCode.toNat = w.toNat / 2 ^ 24 ∧ i.operand.toNat = w.toNat % 2 ^ 24) ∧
    (∀ (s : State) (rest : List OpWord), s.params = p → s.ops = w :: rest → (∀ i, decode p w ≠ .ok i) →
      step s = .refused .invalidOperationWord)

/-- opcode_table.json: the decoder accepts exactly the words some row's mask and match accept. -/
def Obligations.DecoderAcceptsExactlyTheTableRows : Prop :=
  ∀ (p : Params) (w : OpWord),
    (∃ i, decode p w = .ok i) ↔ ∃ r ∈ opcodeRows p, w &&& r.mask = r.pattern

/-- opcode_table.json: no word belongs to two rows. -/
def Obligations.TableRowsDoNotOverlap : Prop :=
  ∀ (p : Params) (w : OpWord), ∀ r ∈ opcodeRows p, ∀ r' ∈ opcodeRows p,
    w &&& r.mask = r.pattern → w &&& r'.mask = r'.pattern → r = r'

/-- 95_test_vectors.md section 2.1: words written out in the spec decode as it says, at the vectors' parameters. -/
def Obligations.SpecWordsDecodeAsListed : Prop :=
  decode .default 0x01000000#32 = .ok .takeT ∧ decode .default 0x01000001#32 = .error .mustBeZeroBits ∧
  decode .default 0x03001234#32 = .ok (.tsmooth 0x1234#24) ∧ decode .default 0x03010000#32 = .error .mustBeZeroBits ∧
  decode .default 0x0500001F#32 = .ok (.setref 31#5) ∧ decode .default 0x05000020#32 = .error .mustBeZeroBits ∧
  decode .default 0x11000000#32 = .ok (.raiseComp false) ∧ decode .default 0x30000001#32 = .ok (.decayTick true) ∧
  decode .default 0x20000000#32 = .ok .dispatch ∧ decode .default 0xFF000000#32 = .ok .reset ∧
  decode .default 0xFE000000#32 = .error .unlistedOp

/-! ## Steps -/

/-- 10_state.md section 1 and 30_encoding.md section 2: the block does the next operation of the stream. That the
stream is a field of the state, and that `step` removes the word it runs, is the model's choice (log 4). -/
def Obligations.StepRunsTheNextDecodedOperation : Prop :=
  ∀ (s : State) (w : OpWord) (rest : List OpWord) (i : Instr),
    s.ops = w :: rest → decode s.params w = .ok i → step s = exec i { s with ops := rest }

/-- 70_reset_and_hazards.md section 1: with no operation issued the block waits. That waiting is a step that leaves
the state as it is, is the model's choice (log 4). -/
def Obligations.StepWaitsWithNoOperation : Prop :=
  ∀ s : State, s.ops = [] → step s = .next s

/-- The parameters and the stream are no elements of 10_state.md: no operation writes them, and only TAKE_T, TAKE_F,
TSMOOTH, FSMOOTH and SETREF deliver a result. The model's choice (logs 1, 4, 5, 14). -/
def Obligations.NoOperationWritesParametersOrStream : Prop :=
  ∀ (i : Instr) (s t : State), exec i s = .next t →
    t.params = s.params ∧ t.ops = s.ops ∧ (i.issuer = .environment → t.res = s.res) ∧
    (i ≠ .reset → t.draws = s.draws)

/-! ## Host commands -/

/-- 44_host_commands.md R161: TAKE_T, its word, result and whole effect. -/
def Obligations.TakeTDeliversTheTimingMailbox : Prop :=
  encode .takeT = 0x01000000#32 ∧
  ∀ s : State, s.halted = false →
    exec .takeT s = .next (if s.tReady = true
      then { s with res := .timing true s.tCount s.tEdges, tReady := false }
      else { s with res := .timing false 0 0 })

/-- 44_host_commands.md R162: TAKE_F, its word, result and whole effect. -/
def Obligations.TakeFDeliversTheFrequencyMailbox : Prop :=
  encode .takeF = 0x02000000#32 ∧
  ∀ s : State, s.halted = false →
    exec .takeF s = .next (if s.fReady = true
      then { s with res := .frequency true s.fCount, fReady := false }
      else { s with res := .frequency false 0 })

/-- 44_host_commands.md section 3: SETREF writes the reference and no other state of the block, and 32 or more cannot
be encoded. That its returning nothing leaves `nothing` in the result channel is the model's choice (log 5). -/
def Obligations.SetrefWritesTheReference : Prop :=
  (∀ (v : DacStep) (s : State), s.halted = false →
    exec (.setref v) s = .next { s with cmpref := v, res := .nothing }) ∧
  (∀ v : DacStep, (encode (.setref v)).toNat = 0x05000000 + v.toNat) ∧
  (∀ (p : Params) (w : OpWord), 0x05000000 + 32 ≤ w.toNat → w.toNat < 0x06000000 →
    decode p w = .error .mustBeZeroBits)

/-- 43_smoothers.md R141 (with the batch step of R140): TSMOOTH, its word, result and whole effect, in the two cases
of a batch that goes on and a batch that completes. -/
def Obligations.TsmoothPushesIntoTheMaxFilter : Prop :=
  ∀ (x : Operand) (s : State), s.halted = false → x.toNat < 2 ^ s.params.dw →
    (encode (.tsmooth x)).toNat = 0x03000000 + x.toNat ∧
    exec (.tsmooth x) s = .next (
      if s.cntT + 1 = s.params.nb then
        { s with
          accT := 0, cntT := 0
          ringT := s.ringT.set s.idxT ((s.accT + x.toNat) / s.params.nb)
          idxT := if s.idxT + 1 ≥ s.params.nr then 0 else s.idxT + 1
          tmax := (s.ringT.set s.idxT ((s.accT + x.toNat) / s.params.nb)).foldr max 0
          res := .value ((s.ringT.set s.idxT ((s.accT + x.toNat) / s.params.nb)).foldr max 0) }
      else { s with accT := s.accT + x.toNat, cntT := s.cntT + 1, res := .value s.tmax })

/-- 43_smoothers.md R145 (with the batch step of R140): FSMOOTH, its word, result and whole effect. -/
def Obligations.FsmoothPushesIntoTheMeanFilter : Prop :=
  ∀ (x : Operand) (s : State), s.halted = false → x.toNat < 2 ^ s.params.dw →
    (encode (.fsmooth x)).toNat = 0x04000000 + x.toNat ∧
    exec (.fsmooth x) s = .next (
      if s.cntF + 1 = s.params.nb then
        { s with
          accF := 0, cntF := 0
          fsum := s.fsum - s.ringF.getD s.idxF 0 + (s.accF + x.toNat) / s.params.nb
          ringF := s.ringF.set s.idxF ((s.accF + x.toNat) / s.params.nb)
          idxF := if s.idxF + 1 ≥ s.params.nr then 0 else s.idxF + 1
          res := .value ((s.fsum - s.ringF.getD s.idxF 0 + (s.accF + x.toNat) / s.params.nb) / s.params.nr) }
      else { s with accF := s.accF + x.toNat, cntF := s.cntF + 1, res := .value (s.fsum / s.params.nr) })

/-- 30_encoding.md section 1: a sample wider than `DW` bits belongs to no valid word. That the meaning refuses it is
the model's choice (log 7). -/
def Obligations.SamplesWiderThanDWAreRefused : Prop :=
  ∀ (x : Operand) (s : State), 2 ^ s.params.dw ≤ x.toNat →
    exec (.tsmooth x) s = .refused .invalidOperationWord ∧ exec (.fsmooth x) s = .refused .invalidOperationWord

/-! ## Events -/

/-- 45_events_dispatch.md R180, R182 to R186: each of the six raise events sets its own pending flag and nothing else,
whether or not it was set, and then requests an interrupt (its source is always enabled). -/
def Obligations.RaiseSetsOnlyItsPendingFlag : Prop :=
  (encode .raiseCoil = 0x10000000#32 ∧ encode .raiseAudio = 0x12000000#32 ∧ encode .raiseMillis = 0x13000000#32 ∧
    encode .raiseSerTx = 0x14000000#32 ∧ encode .raiseSerRx = 0x15000000#32 ∧
    encode .raiseUnknown = 0x16000000#32) ∧
  ∀ s : State, s.halted = false →
    (∃ t, exec .raiseCoil s = .next t ∧ t = { s with pend := { s.pend with coil := true } } ∧ irq t = true) ∧
    (∃ t, exec .raiseAudio s = .next t ∧ t = { s with pend := { s.pend with audio := true } } ∧ irq t = true) ∧
    (∃ t, exec .raiseMillis s = .next t ∧ t = { s with pend := { s.pend with millis := true } } ∧ irq t = true) ∧
    (∃ t, exec .raiseSerTx s = .next t ∧ t = { s with pend := { s.pend with serTx := true } } ∧ irq t = true) ∧
    (∃ t, exec .raiseSerRx s = .next t ∧ t = { s with pend := { s.pend with serRx := true } } ∧ irq t = true) ∧
    (∃ t, exec .raiseUnknown s = .next t ∧ t = { s with pend := { s.pend with unknown := true } } ∧ irq t = true)

/-- 45_events_dispatch.md R181: an enabled edge always latches, a masked one as its latch choice says. -/
def Obligations.RaiseCompLatchesByEnableOrChoice : Prop :=
  ∀ (l : Bool) (s : State), s.halted = false →
    (encode (.raiseComp l)).toNat = 0x11000000 + l.toNat ∧
    exec (.raiseComp l) s = .next { s with pend := { s.pend with
      comp := if s.cie = true then true else (s.pend.comp || l) } }

/-- 42_edge_counting.md R126: one count period of the decay timer. -/
def Obligations.DecayTickCountsWhenOnAndOpen : Prop :=
  ∀ (g : Bool) (s : State), s.halted = false →
    (encode (.decayTick g)).toNat = 0x30000000 + g.toNat ∧
    exec (.decayTick g) s = .next (if s.dtOn = true ∧ (s.dtGate = false ∨ g = true)
      then { s with dtCount := (s.dtCount + 1) % 2 ^ s.params.dw } else s)

/-! ## Dispatch and its services -/

/-- 45_events_dispatch.md R187, R188, R189: when a DISPATCH acts, the check order, the one source served (the outside
services change nothing but their flag), and the fatal fallback. -/
def Obligations.DispatchServesTheFirstPassingCheck : Prop :=
  encode .dispatch = 0x20000000#32 ∧
  ∀ s : State, s.halted = false →
    (irq s = true ↔ ∃ src, s.pend.get src = true ∧ (src = .comp → s.cie = true)) ∧
    (irq s = false → exec .dispatch s = .next s) ∧
    (irq s = true → exec .dispatch s = .next (
      if s.pend.coil = true then coilService { s with pend := { s.pend with coil := false } }
      else if s.pend.comp = true ∧ (s.params.cmpCheckUsesEnable = false ∨ s.cie = true) then
        edgeService { s with pend := { s.pend with comp := false } }
      else if s.pend.audio = true then { s with pend := { s.pend with audio := false } }
      else if s.pend.millis = true then { s with pend := { s.pend with millis := false } }
      else if s.pend.serTx = true then { s with pend := { s.pend with serTx := false } }
      else if s.pend.serRx = true then { s with pend := { s.pend with serRx := false } }
      else { s with faultSeen := true, halted := true }))

/-- 41_pulse_decay.md R100: the coil service is reached by a DISPATCH whenever COIL is pending, the phase selects its
entry action, and every service toggles the phase. -/
def Obligations.CoilServiceTogglesThePhase : Prop :=
  ∀ s : State, s.halted = false → s.pend.coil = true →
    (s.phase = .pause →
      exec .dispatch s = .next (pulseActiveEntry { s with pend := { s.pend with coil := false } }) ∧
      (pulseActiveEntry { s with pend := { s.pend with coil := false } }).phase = .pulse) ∧
    (s.phase = .pulse →
      exec .dispatch s = .next (pulseInactiveEntry { s with pend := { s.pend with coil := false } }) ∧
      (pulseInactiveEntry { s with pend := { s.pend with coil := false } }).phase = .pause)

/-- 41_pulse_decay.md R101: PULSE_ACTIVE entry, with the timing capture into an empty mailbox only. -/
def Obligations.CoilServiceInPauseEntersThePulse : Prop :=
  ∀ s : State, s.halted = false → s.pend.coil = true → s.phase = .pause →
    exec .dispatch s = .next { s with
      pend := { s.pend with coil := false }
      driveCfg := .cfgPulse, dtOn := false, dtGate := false
      tCount := if s.tReady = true then s.tCount else s.dtCount
      tEdges := if s.tReady = true then s.tEdges else s.pcnt
      tReady := true, dtCount := 0, coil := true, cie := false, phase := .pulse }

/-- 41_pulse_decay.md R102, R104: PULSE_INACTIVE entry; its busy-wait writes nothing, and `dt_count`, `dt_presc` and
`pend[COMP]` are kept. -/
def Obligations.CoilServiceInPulseEntersThePause : Prop :=
  ∀ s : State, s.halted = false → s.pend.coil = true → s.phase = .pulse →
    exec .dispatch s = .next { s with
      pend := { s.pend with coil := false }
      cie := true, coil := false, dtOn := true, dtGate := false, driveCfg := .cfgPause, pcnt := 0, phase := .pause }

/-- 42_edge_counting.md R120 to R124: the edge service counts the edge under either reading of `EDGE_TEST_BEFORE_INC`,
arms the gate at `EDGE_ARM`, captures at `EDGE_CAP` into an empty mailbox only, and otherwise only counts. -/
def Obligations.EdgeServiceCountsArmsAndCaptures : Prop :=
  ∀ s : State, s.halted = false → irq s = true → s.pend.coil = false → s.pend.comp = true →
    (s.cie = true ∨ s.params.cmpCheckUsesEnable = false) →
    ∀ n c : Nat, n = (s.pcnt + 1) % 2 ^ s.params.pcw → c = (if s.params.edgeTestBeforeInc = true then s.pcnt else n) →
      (c = s.params.edgeArm → exec .dispatch s = .next { s with
        pend := { s.pend with comp := false }, pcnt := n, dtGate := true }) ∧
      (c = s.params.edgeCap → exec .dispatch s = .next { s with
        pend := { s.pend with comp := false }, pcnt := n
        fCount := if s.fReady = true then s.fCount else s.dtCount
        fReady := true, dtCount := 0, dtGate := false, dtOn := true, dtPresc := .prescFull, cie := false }) ∧
      (c ≠ s.params.edgeArm → c ≠ s.params.edgeCap → exec .dispatch s = .next { s with
        pend := { s.pend with comp := false }, pcnt := n })

/-- The effect of 60_exceptions.md R201 under the condition the Exceptions paragraph of 45_events_dispatch.md R188
gives: a DISPATCH takes
FatalUnhandledInterrupt when UNKNOWN is pending and no known source passes its check, and then it sets the two fault
bits and changes nothing else; otherwise it does not halt. -/
def Obligations.FatalFallbackExactlyWhenOnlyUnknownRequests : Prop :=
  ∀ s : State, s.halted = false →
    (s.pend.unknown = true ∧ s.pend.coil = false ∧ s.pend.audio = false ∧ s.pend.millis = false ∧
        s.pend.serTx = false ∧ s.pend.serRx = false ∧
        (s.pend.comp = true → s.cie = false ∧ s.params.cmpCheckUsesEnable = true) →
      exec .dispatch s = .next { s with faultSeen := true, halted := true }) ∧
    (¬(s.pend.unknown = true ∧ s.pend.coil = false ∧ s.pend.audio = false ∧ s.pend.millis = false ∧
        s.pend.serTx = false ∧ s.pend.serRx = false ∧
        (s.pend.comp = true → s.cie = false ∧ s.params.cmpCheckUsesEnable = true)) →
      ∃ t, exec .dispatch s = .next t ∧ t.halted = false ∧ t.faultSeen = s.faultSeen)

/-- 45_events_dispatch.md section 2 (simultaneous events): one acting DISPATCH clears the flag of the first source in
check order whose check passes, and no other flag, in whatever order the events were raised. -/
def Obligations.DispatchClearsExactlyOneFlag : Prop :=
  ∀ (s : State) (src : Source), s.halted = false → irq s = true → selected s = some src →
    s.pend.get src = true ∧
    (∀ before after, checkOrder = before ++ src :: after → ∀ other ∈ before, chk s other = false) ∧
    ∃ t, exec .dispatch s = .next t ∧ t.pend.get src = false ∧
      ∀ other, other ≠ src → t.pend.get other = s.pend.get other

/-- 45_events_dispatch.md section 2 (check order, one source a dispatch): with no unknown source pending, six
dispatches in a row leave no request, and none of them is fatal. -/
def Obligations.SixDispatchesServeEveryKnownRequest : Prop :=
  ∀ s : State, s.halted = false → s.pend.unknown = false →
    ∃ t, execAll (List.replicate 6 .dispatch) s = .next t ∧ irq t = false ∧ t.halted = false ∧
      t.faultSeen = s.faultSeen

/-! ## The exception, the halt and reset -/

/-- 60_exceptions.md R200: every valid operation word has a defined effect in every state that is not halted, and the
one exception is raised by DISPATCH alone, when no check passes, and records nothing but the two fault bits. -/
def Obligations.OnlyDispatchRaisesTheOneException : Prop :=
  (∀ e : BlockException, e = .fatalUnhandledInterrupt ∧ causeCode e = 1) ∧
  (∀ (i : Instr) (s : State), s.halted = false → i.wellFormed s.params = true → ∃ t, exec i s = .next t) ∧
  (∀ (s : State) (w : OpWord) (i : Instr), s.halted = false → decode s.params w = .ok i → ∃ t, exec i s = .next t) ∧
  (∀ (i : Instr) (s t : State), exec i s = .next t →
    (t.halted = true ∨ (t.faultSeen = true ∧ s.faultSeen = false)) →
      i = .dispatch ∧ irq s = true ∧ selected s = none ∧ t = { s with faultSeen := true, halted := true })

/-- 45_events_dispatch.md R191: while halted no RAISE, DISPATCH, DECAY_TICK or host command has a step. -/
def Obligations.HaltedBlocksEverythingButReset : Prop :=
  ∀ (i : Instr) (s : State), s.halted = true → i ≠ .reset → i.wellFormed s.params = true →
    exec i s = .fault .halted

/-- 10_state.md R37: `fault_seen` is never cleared, `halted` is set with it and cleared only by RESET, and while halted
no operation but RESET has a step. -/
def Obligations.FaultSeenIsStickyAndHaltEndsOnlyByReset : Prop :=
  (∀ (i : Instr) (s t : State), exec i s = .next t →
    (s.faultSeen = true → t.faultSeen = true) ∧
    (s.halted = false → t.halted = true → t.faultSeen = true) ∧
    (s.halted = true → i = .reset ∧ t.halted = false ∧ t.faultSeen = s.faultSeen)) ∧
  (∀ s : State, ∃ t, exec .reset s = .next t ∧ t.halted = false ∧ t.faultSeen = s.faultSeen) ∧
  State.reset.halted = false ∧ State.reset.faultSeen = false

/-- 70_reset_and_hazards.md section 1: RESET has a step in every state, halted or not, and gives every element its value
of 10_state.md section 10; `drive_cfg` and `dt_presc` take some value of theirs, `fault_seen` is kept. That one draw is
counted (log 3) and that the parameters, the stream and the result channel are kept (log 14) are the model's choices. -/
def Obligations.ResetGivesR0InEveryState : Prop :=
  encode .reset = 0xFF000000#32 ∧
  ∀ s : State, ∃ (d : DriveCfg) (q : DecayPresc), exec .reset s = .next { s with
    phase := .pause, coil := false, driveCfg := d, cie := false, cmpref := s.params.cmprefInit
    dtCount := 0, dtOn := false, dtGate := false, dtPresc := q, pcnt := 0
    tReady := false, tCount := 0, tEdges := 0, fReady := false, fCount := 0
    pend := ⟨false, false, false, false, false, false, false⟩
    ringT := List.replicate s.params.nr 0, idxT := 0, accT := 0, cntT := 0, tmax := 0
    ringF := List.replicate s.params.nr 0, idxF := 0, accF := 0, cntF := 0, fsum := 0
    halted := false, draws := s.draws + 1 }

/-- 10_state.md R41: the reset values of every element, at the start of a run. -/
def Obligations.StartOfRunHoldsTheResetValues : Prop :=
  State.reset.phase = .pause ∧ State.reset.coil = false ∧ State.reset.cie = false ∧
  State.reset.cmpref = State.reset.params.cmprefInit ∧ State.reset.dtCount = 0 ∧ State.reset.dtOn = false ∧
  State.reset.dtGate = false ∧ State.reset.pcnt = 0 ∧ State.reset.tReady = false ∧ State.reset.tCount = 0 ∧
  State.reset.tEdges = 0 ∧ State.reset.fReady = false ∧ State.reset.fCount = 0 ∧
  (∀ src, State.reset.pend.get src = false) ∧
  State.reset.ringT = List.replicate State.reset.params.nr 0 ∧
  State.reset.ringF = List.replicate State.reset.params.nr 0 ∧
  State.reset.idxT = 0 ∧ State.reset.idxF = 0 ∧ State.reset.accT = 0 ∧ State.reset.accF = 0 ∧
  State.reset.cntT = 0 ∧ State.reset.cntF = 0 ∧ State.reset.tmax = 0 ∧ State.reset.fsum = 0 ∧
  State.reset.halted = false ∧ State.reset.faultSeen = false

/-- 70_reset_and_hazards.md section 1 (warm-up after reset): from `R0` for any parameters and draw, the first coil
expiration served enters the pulse and captures the sample (0, 0). -/
def Obligations.FirstCoilServiceCapturesTheWarmUpSample : Prop :=
  ∀ (p : Params) (n : Nat), ∃ t, execAll [.raiseCoil, .dispatch] (State.r0 p n) = .next t ∧
    t.phase = .pulse ∧ t.coil = true ∧ t.cie = false ∧ t.tReady = true ∧ t.tCount = 0 ∧ t.tEdges = 0 ∧
    t.pend = .clear

/-! ## Invariants -/

/-- 10_state.md section 9: the invariant holds at reset, for every choice of parameters and of the unspecified
elements. -/
def Obligations.InvariantHoldsAtReset : Prop :=
  BlockInv State.reset ∧ ∀ (p : Params) (n : Nat), BlockInv (State.r0 p n)

/-- 10_state.md section 9, items 1 to 7, with the widths of sections 2 to 5: every step keeps the invariant, from every
state that meets it and at every choice of parameters. -/
def Obligations.EveryStepKeepsTheInvariant : Prop :=
  ∀ s t : State, BlockInv s → step s = .next t → BlockInv t

/-- 10_state.md section 9, item 8, and its reason: with `CMP_CHECK_USES_ENABLE` no pause counts past its ceiling. The
premise on `EDGE_CAP` is the model's: with `EDGE_CAP = 0` and increment-then-compare the item does not hold (log 13). -/
def Obligations.EveryStepKeepsTheEdgeCountLimit : Prop :=
  (∀ (p : Params) (n : Nat), EdgeCountLimited (State.r0 p n)) ∧
  ∀ s t : State, s.params.cmpCheckUsesEnable = true →
    (s.params.edgeTestBeforeInc = true ∨ 0 < s.params.edgeCap) →
    EdgeCountLimited s → step s = .next t → EdgeCountLimited t

/-- 70_reset_and_hazards.md section 1 (launch states) with 60_exceptions.md section 1: from an admitted launch state a
step gives an admitted launch state, or the fatal fallback has been seen; in both cases the invariant holds. -/
def Obligations.LaunchStatesStayAdmittedUntilAFault : Prop :=
  ∀ s t : State, LaunchAdmitted s → step s = .next t → BlockInv t ∧ (NoFault t → LaunchAdmitted t)

/-- 41_pulse_decay.md, coil output: the coil is driven exactly in the pulse phase, after every step from a state that
meets the invariant. -/
def Obligations.CoilIsDrivenExactlyInThePulse : Prop :=
  ∀ s t : State, BlockInv s → step s = .next t → (t.coil = true ↔ t.phase = .pulse)

/-! ## Mailboxes -/

/-- 10_state.md sections 3 and 7: an unread sample is never overwritten; contents are written by DISPATCH (and RESET)
only, a ready flag is set by DISPATCH only, together with the capture of the count (and PeriodCounter) into the empty
mailbox, and cleared by its own take or RESET only. -/
def Obligations.UnreadSamplesAreNeverOverwritten : Prop :=
  ∀ (i : Instr) (s t : State), exec i s = .next t → i ≠ .reset →
    (s.tReady = true → t.tCount = s.tCount ∧ t.tEdges = s.tEdges ∧ (i ≠ .takeT → t.tReady = true)) ∧
    (s.fReady = true → t.fCount = s.fCount ∧ (i ≠ .takeF → t.fReady = true)) ∧
    (i ≠ .dispatch → t.tCount = s.tCount ∧ t.tEdges = s.tEdges ∧ t.fCount = s.fCount ∧
      (t.tReady = true → s.tReady = true) ∧ (t.fReady = true → s.fReady = true)) ∧
    (t.tReady = false → t.tCount = s.tCount ∧ t.tEdges = s.tEdges) ∧ (t.fReady = false → t.fCount = s.fCount) ∧
    (s.tReady = false → t.tReady = true → t.tCount = s.dtCount ∧ t.tEdges = s.pcnt) ∧
    (s.fReady = false → t.fReady = true → t.fCount = s.dtCount)

/-- 20_memory.md section 4 (mailbox handoff): a consumer that finds the flag set and takes any number of operations
later, RESET and takes of its own apart, still takes the sample that was published. -/
def Obligations.DelayedTakeReadsThePublishedSample : Prop :=
  ∀ (is : List Instr) (s t : State), execAll is s = .next t → Instr.reset ∉ is → t.halted = false →
    (s.tReady = true → Instr.takeT ∉ is →
      exec .takeT t = .next { t with tReady := false, res := .timing true s.tCount s.tEdges }) ∧
    (s.fReady = true → Instr.takeF ∉ is →
      exec .takeF t = .next { t with fReady := false, res := .frequency true s.fCount })

/-- 42_edge_counting.md section on one sample per cycle: with `CMP_CHECK_USES_ENABLE`, while the comparator is masked
no operation but RESET publishes a frequency sample or counts an edge, and only PULSE_INACTIVE entry unmasks it, with
PeriodCounter back at 0. -/
def Obligations.MaskedComparatorPublishesNoFrequencySample : Prop :=
  ∀ (i : Instr) (s t : State), exec i s = .next t → i ≠ .reset →
    s.params.cmpCheckUsesEnable = true → s.cie = false →
    t.fCount = s.fCount ∧ (t.fReady = true → s.fReady = true) ∧
    (t.cie = false → t.pcnt = s.pcnt) ∧
    (t.cie = true → i = .dispatch ∧ s.phase = .pulse ∧ t.phase = .pause ∧ t.pcnt = 0)

/-- 10_state.md section 7 (ownership table): which operations write which elements. RESET, which writes them all but
`fault_seen`, is stated on its own. -/
def Obligations.EachElementIsWrittenOnlyByItsOwners : Prop :=
  ∀ (i : Instr) (s t : State), exec i s = .next t → i ≠ .reset →
    (i ≠ .dispatch →
      t.phase = s.phase ∧ t.coil = s.coil ∧ t.driveCfg = s.driveCfg ∧ t.dtOn = s.dtOn ∧ t.dtGate = s.dtGate ∧
      t.dtPresc = s.dtPresc ∧ t.pcnt = s.pcnt ∧ t.cie = s.cie ∧ t.tCount = s.tCount ∧ t.tEdges = s.tEdges ∧
      t.fCount = s.fCount ∧ t.halted = s.halted ∧ t.faultSeen = s.faultSeen ∧
      ((∀ g, i ≠ .decayTick g) → t.dtCount = s.dtCount)) ∧
    ((∀ v, i ≠ .setref v) → t.cmpref = s.cmpref) ∧
    ((∀ x, i ≠ .tsmooth x) →
      t.ringT = s.ringT ∧ t.idxT = s.idxT ∧ t.accT = s.accT ∧ t.cntT = s.cntT ∧ t.tmax = s.tmax) ∧
    ((∀ x, i ≠ .fsmooth x) →
      t.ringF = s.ringF ∧ t.idxF = s.idxF ∧ t.accF = s.accF ∧ t.cntF = s.cntF ∧ t.fsum = s.fsum) ∧
    (i ≠ .dispatch → (t.tReady = true → s.tReady = true) ∧ (t.fReady = true → s.fReady = true)) ∧
    (i ≠ .takeT → s.tReady = true → t.tReady = true) ∧
    (i ≠ .takeF → s.fReady = true → t.fReady = true) ∧
    (i.issuer = .host → t.pend = s.pend) ∧
    (∀ src, i = .dispatch → t.pend.get src = true → s.pend.get src = true) ∧
    (∀ src, i ≠ .dispatch → s.pend.get src = true → t.pend.get src = true)

/-! ## Smoothers -/

/-- 43_smoothers.md R148: each smoother reads and writes only its own elements. From two states that agree on the
parameters, the halt and the one smoother's elements, a push has the same result and leaves the same elements, and it
leaves everything else of either state as it was. -/
def Obligations.SmoothersShareNoState : Prop :=
  (∀ (x : Operand) (s u t : State), exec (.tsmooth x) s = .next t → u.params = s.params → u.halted = s.halted →
    u.ringT = s.ringT → u.idxT = s.idxT → u.accT = s.accT → u.cntT = s.cntT → u.tmax = s.tmax →
    exec (.tsmooth x) u = .next { u with
      ringT := t.ringT, idxT := t.idxT, accT := t.accT, cntT := t.cntT, tmax := t.tmax, res := t.res }) ∧
  (∀ (x : Operand) (s u t : State), exec (.fsmooth x) s = .next t → u.params = s.params → u.halted = s.halted →
    u.ringF = s.ringF → u.idxF = s.idxF → u.accF = s.accF → u.cntF = s.cntF → u.fsum = s.fsum →
    exec (.fsmooth x) u = .next { u with
      ringF := t.ringF, idxF := t.idxF, accF := t.accF, cntF := t.cntF, fsum := t.fsum, res := t.res })

/-- 43_smoothers.md section 2 (the max scan): from a state that meets the invariant, TSMOOTH returns the maximum of the
slots as it leaves them: a slot's value that no slot exceeds. -/
def Obligations.TsmoothReturnsTheMaximumOfTheSlots : Prop :=
  ∀ (x : Operand) (s : State), BlockInv s → s.halted = false → x.toNat < 2 ^ s.params.dw →
    ∃ (t : State) (m : Nat), exec (.tsmooth x) s = .next t ∧ t.res = .value m ∧ t.tmax = m ∧
      m ∈ t.ringT ∧ ∀ v ∈ t.ringT, v ≤ m

/-- 43_smoothers.md section 2 (monotonic sanity): a batch that completes with an average not below the current maximum
makes that average the maximum and the result. -/
def Obligations.LargestAverageBecomesTheMaximum : Prop :=
  ∀ (x : Operand) (s : State), BlockInv s → s.halted = false → x.toNat < 2 ^ s.params.dw →
    s.cntT + 1 = s.params.nb → s.tmax ≤ (s.accT + x.toNat) / s.params.nb →
    ∃ t, exec (.tsmooth x) s = .next t ∧ t.tmax = (s.accT + x.toNat) / s.params.nb ∧
      t.res = .value ((s.accT + x.toNat) / s.params.nb) ∧
      t.ringT[s.idxT]? = some ((s.accT + x.toNat) / s.params.nb)

/-- 43_smoothers.md section 3 (running-sum exactness): from a state that meets the invariant, FSMOOTH returns the
truncated mean of the slots as it leaves them, and the subtraction it makes is exact. -/
def Obligations.FsmoothReturnsTheMeanOfTheSlots : Prop :=
  ∀ (x : Operand) (s : State), BlockInv s → s.halted = false → x.toNat < 2 ^ s.params.dw →
    s.ringF.getD s.idxF 0 ≤ s.fsum ∧
    ∃ t, exec (.fsmooth x) s = .next t ∧ t.fsum = t.ringF.sum ∧ t.res = .value (t.ringF.sum / s.params.nr)

/-- 43_smoothers.md section 3 (wrap period) and 00_scope.md section 4: `k` pushes complete `(cnt + k) / NB` batches,
each moving the index by one slot around the ring, so `NR * NB` pushes from the reset positions bring it back to 0. -/
def Obligations.RingIndexWrapsAfterAllBatches : Prop :=
  ∀ (xs : List Operand) (s : State), s.halted = false → (∀ x ∈ xs, x.toNat < 2 ^ s.params.dw) →
    (s.idxT < s.params.nr → s.cntT < s.params.nb →
      ∃ t, execAll (xs.map .tsmooth) s = .next t ∧ t.cntT = (s.cntT + xs.length) % s.params.nb ∧
        t.idxT = (s.idxT + (s.cntT + xs.length) / s.params.nb) % s.params.nr ∧
        (s.idxT = 0 → s.cntT = 0 → xs.length = s.params.nr * s.params.nb → t.idxT = 0 ∧ t.cntT = 0)) ∧
    (s.idxF < s.params.nr → s.cntF < s.params.nb →
      ∃ t, execAll (xs.map .fsmooth) s = .next t ∧ t.cntF = (s.cntF + xs.length) % s.params.nb ∧
        t.idxF = (s.idxF + (s.cntF + xs.length) / s.params.nb) % s.params.nr ∧
        (s.idxF = 0 → s.cntF = 0 → xs.length = s.params.nr * s.params.nb → t.idxF = 0 ∧ t.cntF = 0))

/-- 20_memory.md section 4 (smoothers and interrupts): no event disturbs a smoother. A push before an event leaves the
state a push after it leaves. -/
def Obligations.SmootherPushesCommuteWithEvents : Prop :=
  ∀ (e : Instr) (x : Operand) (s t : State), e.issuer = .environment → e ≠ .reset →
    (execAll [e, .tsmooth x] s = .next t → execAll [.tsmooth x, e] s = .next t) ∧
    (execAll [e, .fsmooth x] s = .next t → execAll [.fsmooth x, e] s = .next t)

/-! ## The host table and the assembler -/

/-- 44_host_commands.md section 4: with the block running and meeting its invariant, and the host holding samples of
`DW` bits and pushing values of `DW` bits, every host step completes and keeps all of that, so no host of the table can
get stuck or stop the block. -/
def Obligations.HostStepsCompleteAndKeepTheInvariant : Prop :=
  ∀ (h : HostStep) (c : HostContext) (s : State), BlockInv s → s.halted = false →
    (∀ x, h = .pushTiming x ∨ h = .pushFrequency x → x.toNat < 2 ^ s.params.dw) →
    (∀ v ∈ c.timingToPush, v < 2 ^ s.params.dw) → (∀ v ∈ c.timingToTest, v < 2 ^ s.params.dw) →
    (∀ v ∈ c.frequencyToPush, v < 2 ^ s.params.dw) →
    ∃ (d : HostContext) (t : State), hostTurn h c s = .next (d, t) ∧ BlockInv t ∧ t.halted = false ∧
      t.params = s.params ∧ (∀ v ∈ d.timingToPush, v < 2 ^ s.params.dw) ∧
      (∀ v ∈ d.timingToTest, v < 2 ^ s.params.dw) ∧ (∀ v ∈ d.frequencyToPush, v < 2 ^ s.params.dw)

/-- 44_host_commands.md section 4, H3 and H5: SoundOn is set when the sample plus the margin is below the reference, a
sample is tested once, and while SoundOn is true H5 pushes nothing. That H3 takes the oldest untested sample and does
nothing without one is the model's choice (log 15). -/
def Obligations.DetectionSetsSoundOnAndSilencesTheFrequencyPush : Prop :=
  ∀ (c : HostContext) (s : State),
    (∀ v rest, c.timingToTest = v :: rest →
      hostTurn .h3 c s = .next ({ c with
        soundOn := c.soundOn || decide (v + s.params.margin < c.timingReference), timingToTest := rest }, s)) ∧
    (c.timingToTest = [] → hostTurn .h3 c s = .next (c, s)) ∧
    (c.soundOn = true → hostTurn .h5 c s = .next (c, s))

/-- 30_encoding.md section 4: an operand that does not fit is refused and not truncated, so whatever the assembler
emits, every word is valid. -/
def Obligations.AssembledWordsAreValid : Prop :=
  ∀ (p : Params) (lines : List String) (ws : List OpWord), assemble p lines = some ws →
    ∀ w ∈ ws, ∃ i, decode p w = .ok i

/-- 30_encoding.md section 4: what the pseudo-instructions and the repetition expand to. Lines that assemble on their
own, between a `.rep N` line and an `.endr` line, stand for their operations `N` times, and other lines may follow. -/
def Obligations.PseudoInstructionsExpandAsListed : Prop :=
  ∀ (p : Params) (n x : String) (k : Nat) (v : Operand), number n = some k → sampleOperand p x = some v →
    (∀ (opening closing : String) (body after : List String) (is js : List Instr),
      lineWords opening = [".rep", n] → lineWords closing = [".endr"] →
      assembleLines p [] [] body = some is → assembleLines p [] [] after = some js →
      assembleLines p [] [] (opening :: body ++ closing :: after) = some ((List.replicate k is).flatten ++ js)) ∧
    assembleWords p ["coil"] = some (.operations [.raiseCoil, .dispatch]) ∧
    assembleWords p ["edge"] = some (.operations [.raiseComp true, .dispatch]) ∧
    assembleWords p ["ticks", n, "1"] = some (.operations (List.replicate k (.decayTick true))) ∧
    assembleWords p ["ticks", n, "0"] = some (.operations (List.replicate k (.decayTick false))) ∧
    assembleWords p ["batch.t", x] = some (.operations (List.replicate p.nb (.tsmooth v))) ∧
    assembleWords p ["batch.f", x] = some (.operations (List.replicate p.nb (.fsmooth v)))

/-- 43_smoothers.md section 4 (call pattern): along every run of host steps among operations of the environment, the
samples H2 pushes to the timing smoother, with those still to push, are the timing samples taken, each once and in
order; and the samples H5 pushes to the frequency smoother, with those still to push, are the frequency samples taken
while SoundOn was false. So a sample dropped at a full mailbox, or taken while sounding, never reaches a smoother
through H2 or H5. That samples wait in order is the model's choice (log 15). -/
def Obligations.EachTakenSampleIsPushedOnce : Prop :=
  ∀ (us : List Turn) (c d : HostContext) (s t : State), hostRun us c s = .next (d, t) →
    (∀ i, Turn.event i ∈ us → i.issuer = .environment) →
    (c.timingToPush ++ record timingTaken us c s).map (BitVec.ofNat 24) =
      record timingPushed us c s ++ d.timingToPush.map (BitVec.ofNat 24) ∧
    (c.frequencyToPush ++ record frequencyTakenSilent us c s).map (BitVec.ofNat 24) =
      record frequencyPushed us c s ++ d.frequencyToPush.map (BitVec.ofNat 24)

/-- 44_host_commands.md section 4 (liberties): whatever the host holds and whatever the running block is doing, the host
may take either mailbox, push any sample of `DW` bits to either smoother, write any reference and set or clear SoundOn;
and in a halted block it may apply RESET, after which the block runs, while no other command of the host has a step.
What the host itself holds after each is the model's choice (log 15). -/
def Obligations.HostLibertiesAreAlwaysOpen : Prop :=
  (∀ (c : HostContext) (s : State), s.halted = false →
    (∃ d t, hostTurn .h1 c s = .next (d, t) ∧ exec .takeT s = .next t ∧ t.tReady = false ∧
      t.res = (if s.tReady = true then .timing true s.tCount s.tEdges else .timing false 0 0)) ∧
    (∃ d t, hostTurn .h4 c s = .next (d, t) ∧ exec .takeF s = .next t ∧ t.fReady = false ∧
      t.res = (if s.fReady = true then .frequency true s.fCount else .frequency false 0)) ∧
    (∀ x : Operand, x.toNat < 2 ^ s.params.dw →
      (∃ t m, hostTurn (.pushTiming x) c s = .next ({ c with timingReference := m }, t) ∧
        exec (.tsmooth x) s = .next t ∧ t.res = .value m) ∧
      (∃ t m, hostTurn (.pushFrequency x) c s = .next ({ c with frequencyReference := m }, t) ∧
        exec (.fsmooth x) s = .next t ∧ t.res = .value m)) ∧
    (∀ v : DacStep, ∃ t, hostTurn (.setReference v) c s = .next (c, t) ∧ t.cmpref = v ∧
      t = { s with cmpref := v, res := t.res }) ∧
    (∀ on, hostTurn (.sound on) c s = .next ({ c with soundOn := on }, s))) ∧
  (∀ (c : HostContext) (s : State), s.halted = true →
    (∃ t, hostTurn .resetAfterHalt c s = .next (c, t) ∧ exec .reset s = .next t ∧ t.halted = false) ∧
    (∀ h d t, h ≠ .resetAfterHalt → hostTurn h c s = .next (d, t) → t = s))
end

