-- ==== Sys2Proof/Laws/Encoding.lean ====
section
/-! SUPPORT. The two fields of an operation word put together by the encoder. -/

namespace Sys2Proof

@[simp] theorem opField_append (c : OpCode) (a : Operand) : opField (c ++ a) = c :=
  BitVec.extractLsb'_append_eq_left

@[simp] theorem operandField_append (c : OpCode) (a : Operand) : operandField (c ++ a) = a :=
  BitVec.extractLsb'_append_eq_right

@[simp] theorem opField_encode (i : Instr) : opField (encode i) = i.opCode := opField_append _ _

@[simp] theorem operandField_encode (i : Instr) : operandField (encode i) = i.operand := operandField_append _ _

end Sys2Proof
end

