-- ==== Sys2Proof/Laws/State.lean ====
section
/-! SUPPORT. One lemma per field per named update of State, so that no later proof unfolds a record update. -/

namespace Sys2Proof.Machine

/-! ## res <- r -/

@[simp] theorem deliver_phase (r : Result) (s : State) : (deliver r s).phase = s.phase := rfl
@[simp] theorem deliver_coil (r : Result) (s : State) : (deliver r s).coil = s.coil := rfl
@[simp] theorem deliver_driveCfg (r : Result) (s : State) : (deliver r s).driveCfg = s.driveCfg := rfl
@[simp] theorem deliver_cie (r : Result) (s : State) : (deliver r s).cie = s.cie := rfl
@[simp] theorem deliver_cmpref (r : Result) (s : State) : (deliver r s).cmpref = s.cmpref := rfl
@[simp] theorem deliver_dtCount (r : Result) (s : State) : (deliver r s).dtCount = s.dtCount := rfl
@[simp] theorem deliver_dtOn (r : Result) (s : State) : (deliver r s).dtOn = s.dtOn := rfl
@[simp] theorem deliver_dtGate (r : Result) (s : State) : (deliver r s).dtGate = s.dtGate := rfl
@[simp] theorem deliver_dtPresc (r : Result) (s : State) : (deliver r s).dtPresc = s.dtPresc := rfl
@[simp] theorem deliver_pcnt (r : Result) (s : State) : (deliver r s).pcnt = s.pcnt := rfl
@[simp] theorem deliver_tReady (r : Result) (s : State) : (deliver r s).tReady = s.tReady := rfl
@[simp] theorem deliver_tCount (r : Result) (s : State) : (deliver r s).tCount = s.tCount := rfl
@[simp] theorem deliver_tEdges (r : Result) (s : State) : (deliver r s).tEdges = s.tEdges := rfl
@[simp] theorem deliver_fReady (r : Result) (s : State) : (deliver r s).fReady = s.fReady := rfl
@[simp] theorem deliver_fCount (r : Result) (s : State) : (deliver r s).fCount = s.fCount := rfl
@[simp] theorem deliver_pend (r : Result) (s : State) : (deliver r s).pend = s.pend := rfl
@[simp] theorem deliver_ringT (r : Result) (s : State) : (deliver r s).ringT = s.ringT := rfl
@[simp] theorem deliver_idxT (r : Result) (s : State) : (deliver r s).idxT = s.idxT := rfl
@[simp] theorem deliver_accT (r : Result) (s : State) : (deliver r s).accT = s.accT := rfl
@[simp] theorem deliver_cntT (r : Result) (s : State) : (deliver r s).cntT = s.cntT := rfl
@[simp] theorem deliver_tmax (r : Result) (s : State) : (deliver r s).tmax = s.tmax := rfl
@[simp] theorem deliver_ringF (r : Result) (s : State) : (deliver r s).ringF = s.ringF := rfl
@[simp] theorem deliver_idxF (r : Result) (s : State) : (deliver r s).idxF = s.idxF := rfl
@[simp] theorem deliver_accF (r : Result) (s : State) : (deliver r s).accF = s.accF := rfl
@[simp] theorem deliver_cntF (r : Result) (s : State) : (deliver r s).cntF = s.cntF := rfl
@[simp] theorem deliver_fsum (r : Result) (s : State) : (deliver r s).fsum = s.fsum := rfl
@[simp] theorem deliver_halted (r : Result) (s : State) : (deliver r s).halted = s.halted := rfl
@[simp] theorem deliver_faultSeen (r : Result) (s : State) : (deliver r s).faultSeen = s.faultSeen := rfl
@[simp] theorem deliver_params (r : Result) (s : State) : (deliver r s).params = s.params := rfl
@[simp] theorem deliver_res (r : Result) (s : State) : (deliver r s).res = r := rfl
@[simp] theorem deliver_ops (r : Result) (s : State) : (deliver r s).ops = s.ops := rfl
@[simp] theorem deliver_draws (r : Result) (s : State) : (deliver r s).draws = s.draws := rfl

/-! ## pend[src] <- 1 -/

@[simp] theorem raise_phase (src : Source) (s : State) : (raise src s).phase = s.phase := rfl
@[simp] theorem raise_coil (src : Source) (s : State) : (raise src s).coil = s.coil := rfl
@[simp] theorem raise_driveCfg (src : Source) (s : State) : (raise src s).driveCfg = s.driveCfg := rfl
@[simp] theorem raise_cie (src : Source) (s : State) : (raise src s).cie = s.cie := rfl
@[simp] theorem raise_cmpref (src : Source) (s : State) : (raise src s).cmpref = s.cmpref := rfl
@[simp] theorem raise_dtCount (src : Source) (s : State) : (raise src s).dtCount = s.dtCount := rfl
@[simp] theorem raise_dtOn (src : Source) (s : State) : (raise src s).dtOn = s.dtOn := rfl
@[simp] theorem raise_dtGate (src : Source) (s : State) : (raise src s).dtGate = s.dtGate := rfl
@[simp] theorem raise_dtPresc (src : Source) (s : State) : (raise src s).dtPresc = s.dtPresc := rfl
@[simp] theorem raise_pcnt (src : Source) (s : State) : (raise src s).pcnt = s.pcnt := rfl
@[simp] theorem raise_tReady (src : Source) (s : State) : (raise src s).tReady = s.tReady := rfl
@[simp] theorem raise_tCount (src : Source) (s : State) : (raise src s).tCount = s.tCount := rfl
@[simp] theorem raise_tEdges (src : Source) (s : State) : (raise src s).tEdges = s.tEdges := rfl
@[simp] theorem raise_fReady (src : Source) (s : State) : (raise src s).fReady = s.fReady := rfl
@[simp] theorem raise_fCount (src : Source) (s : State) : (raise src s).fCount = s.fCount := rfl
@[simp] theorem raise_pend (src : Source) (s : State) : (raise src s).pend = s.pend.set true src := rfl
@[simp] theorem raise_ringT (src : Source) (s : State) : (raise src s).ringT = s.ringT := rfl
@[simp] theorem raise_idxT (src : Source) (s : State) : (raise src s).idxT = s.idxT := rfl
@[simp] theorem raise_accT (src : Source) (s : State) : (raise src s).accT = s.accT := rfl
@[simp] theorem raise_cntT (src : Source) (s : State) : (raise src s).cntT = s.cntT := rfl
@[simp] theorem raise_tmax (src : Source) (s : State) : (raise src s).tmax = s.tmax := rfl
@[simp] theorem raise_ringF (src : Source) (s : State) : (raise src s).ringF = s.ringF := rfl
@[simp] theorem raise_idxF (src : Source) (s : State) : (raise src s).idxF = s.idxF := rfl
@[simp] theorem raise_accF (src : Source) (s : State) : (raise src s).accF = s.accF := rfl
@[simp] theorem raise_cntF (src : Source) (s : State) : (raise src s).cntF = s.cntF := rfl
@[simp] theorem raise_fsum (src : Source) (s : State) : (raise src s).fsum = s.fsum := rfl
@[simp] theorem raise_halted (src : Source) (s : State) : (raise src s).halted = s.halted := rfl
@[simp] theorem raise_faultSeen (src : Source) (s : State) : (raise src s).faultSeen = s.faultSeen := rfl
@[simp] theorem raise_params (src : Source) (s : State) : (raise src s).params = s.params := rfl
@[simp] theorem raise_res (src : Source) (s : State) : (raise src s).res = s.res := rfl
@[simp] theorem raise_ops (src : Source) (s : State) : (raise src s).ops = s.ops := rfl
@[simp] theorem raise_draws (src : Source) (s : State) : (raise src s).draws = s.draws := rfl

/-! ## pend[src] <- 0 -/

@[simp] theorem acknowledge_phase (src : Source) (s : State) : (acknowledge src s).phase = s.phase := rfl
@[simp] theorem acknowledge_coil (src : Source) (s : State) : (acknowledge src s).coil = s.coil := rfl
@[simp] theorem acknowledge_driveCfg (src : Source) (s : State) : (acknowledge src s).driveCfg = s.driveCfg := rfl
@[simp] theorem acknowledge_cie (src : Source) (s : State) : (acknowledge src s).cie = s.cie := rfl
@[simp] theorem acknowledge_cmpref (src : Source) (s : State) : (acknowledge src s).cmpref = s.cmpref := rfl
@[simp] theorem acknowledge_dtCount (src : Source) (s : State) : (acknowledge src s).dtCount = s.dtCount := rfl
@[simp] theorem acknowledge_dtOn (src : Source) (s : State) : (acknowledge src s).dtOn = s.dtOn := rfl
@[simp] theorem acknowledge_dtGate (src : Source) (s : State) : (acknowledge src s).dtGate = s.dtGate := rfl
@[simp] theorem acknowledge_dtPresc (src : Source) (s : State) : (acknowledge src s).dtPresc = s.dtPresc := rfl
@[simp] theorem acknowledge_pcnt (src : Source) (s : State) : (acknowledge src s).pcnt = s.pcnt := rfl
@[simp] theorem acknowledge_tReady (src : Source) (s : State) : (acknowledge src s).tReady = s.tReady := rfl
@[simp] theorem acknowledge_tCount (src : Source) (s : State) : (acknowledge src s).tCount = s.tCount := rfl
@[simp] theorem acknowledge_tEdges (src : Source) (s : State) : (acknowledge src s).tEdges = s.tEdges := rfl
@[simp] theorem acknowledge_fReady (src : Source) (s : State) : (acknowledge src s).fReady = s.fReady := rfl
@[simp] theorem acknowledge_fCount (src : Source) (s : State) : (acknowledge src s).fCount = s.fCount := rfl
@[simp] theorem acknowledge_pend (src : Source) (s : State) : (acknowledge src s).pend = s.pend.set false src := rfl
@[simp] theorem acknowledge_ringT (src : Source) (s : State) : (acknowledge src s).ringT = s.ringT := rfl
@[simp] theorem acknowledge_idxT (src : Source) (s : State) : (acknowledge src s).idxT = s.idxT := rfl
@[simp] theorem acknowledge_accT (src : Source) (s : State) : (acknowledge src s).accT = s.accT := rfl
@[simp] theorem acknowledge_cntT (src : Source) (s : State) : (acknowledge src s).cntT = s.cntT := rfl
@[simp] theorem acknowledge_tmax (src : Source) (s : State) : (acknowledge src s).tmax = s.tmax := rfl
@[simp] theorem acknowledge_ringF (src : Source) (s : State) : (acknowledge src s).ringF = s.ringF := rfl
@[simp] theorem acknowledge_idxF (src : Source) (s : State) : (acknowledge src s).idxF = s.idxF := rfl
@[simp] theorem acknowledge_accF (src : Source) (s : State) : (acknowledge src s).accF = s.accF := rfl
@[simp] theorem acknowledge_cntF (src : Source) (s : State) : (acknowledge src s).cntF = s.cntF := rfl
@[simp] theorem acknowledge_fsum (src : Source) (s : State) : (acknowledge src s).fsum = s.fsum := rfl
@[simp] theorem acknowledge_halted (src : Source) (s : State) : (acknowledge src s).halted = s.halted := rfl
@[simp] theorem acknowledge_faultSeen (src : Source) (s : State) : (acknowledge src s).faultSeen = s.faultSeen := rfl
@[simp] theorem acknowledge_params (src : Source) (s : State) : (acknowledge src s).params = s.params := rfl
@[simp] theorem acknowledge_res (src : Source) (s : State) : (acknowledge src s).res = s.res := rfl
@[simp] theorem acknowledge_ops (src : Source) (s : State) : (acknowledge src s).ops = s.ops := rfl
@[simp] theorem acknowledge_draws (src : Source) (s : State) : (acknowledge src s).draws = s.draws := rfl

/-! ## FatalUnhandledInterrupt -/

@[simp] theorem raiseFatalUnhandledInterrupt_phase (s : State) : (raiseFatalUnhandledInterrupt s).phase = s.phase := rfl
@[simp] theorem raiseFatalUnhandledInterrupt_coil (s : State) : (raiseFatalUnhandledInterrupt s).coil = s.coil := rfl
@[simp] theorem raiseFatalUnhandledInterrupt_driveCfg (s : State) : (raiseFatalUnhandledInterrupt s).driveCfg = s.driveCfg := rfl
@[simp] theorem raiseFatalUnhandledInterrupt_cie (s : State) : (raiseFatalUnhandledInterrupt s).cie = s.cie := rfl
@[simp] theorem raiseFatalUnhandledInterrupt_cmpref (s : State) : (raiseFatalUnhandledInterrupt s).cmpref = s.cmpref := rfl
@[simp] theorem raiseFatalUnhandledInterrupt_dtCount (s : State) : (raiseFatalUnhandledInterrupt s).dtCount = s.dtCount := rfl
@[simp] theorem raiseFatalUnhandledInterrupt_dtOn (s : State) : (raiseFatalUnhandledInterrupt s).dtOn = s.dtOn := rfl
@[simp] theorem raiseFatalUnhandledInterrupt_dtGate (s : State) : (raiseFatalUnhandledInterrupt s).dtGate = s.dtGate := rfl
@[simp] theorem raiseFatalUnhandledInterrupt_dtPresc (s : State) : (raiseFatalUnhandledInterrupt s).dtPresc = s.dtPresc := rfl
@[simp] theorem raiseFatalUnhandledInterrupt_pcnt (s : State) : (raiseFatalUnhandledInterrupt s).pcnt = s.pcnt := rfl
@[simp] theorem raiseFatalUnhandledInterrupt_tReady (s : State) : (raiseFatalUnhandledInterrupt s).tReady = s.tReady := rfl
@[simp] theorem raiseFatalUnhandledInterrupt_tCount (s : State) : (raiseFatalUnhandledInterrupt s).tCount = s.tCount := rfl
@[simp] theorem raiseFatalUnhandledInterrupt_tEdges (s : State) : (raiseFatalUnhandledInterrupt s).tEdges = s.tEdges := rfl
@[simp] theorem raiseFatalUnhandledInterrupt_fReady (s : State) : (raiseFatalUnhandledInterrupt s).fReady = s.fReady := rfl
@[simp] theorem raiseFatalUnhandledInterrupt_fCount (s : State) : (raiseFatalUnhandledInterrupt s).fCount = s.fCount := rfl
@[simp] theorem raiseFatalUnhandledInterrupt_pend (s : State) : (raiseFatalUnhandledInterrupt s).pend = s.pend := rfl
@[simp] theorem raiseFatalUnhandledInterrupt_ringT (s : State) : (raiseFatalUnhandledInterrupt s).ringT = s.ringT := rfl
@[simp] theorem raiseFatalUnhandledInterrupt_idxT (s : State) : (raiseFatalUnhandledInterrupt s).idxT = s.idxT := rfl
@[simp] theorem raiseFatalUnhandledInterrupt_accT (s : State) : (raiseFatalUnhandledInterrupt s).accT = s.accT := rfl
@[simp] theorem raiseFatalUnhandledInterrupt_cntT (s : State) : (raiseFatalUnhandledInterrupt s).cntT = s.cntT := rfl
@[simp] theorem raiseFatalUnhandledInterrupt_tmax (s : State) : (raiseFatalUnhandledInterrupt s).tmax = s.tmax := rfl
@[simp] theorem raiseFatalUnhandledInterrupt_ringF (s : State) : (raiseFatalUnhandledInterrupt s).ringF = s.ringF := rfl
@[simp] theorem raiseFatalUnhandledInterrupt_idxF (s : State) : (raiseFatalUnhandledInterrupt s).idxF = s.idxF := rfl
@[simp] theorem raiseFatalUnhandledInterrupt_accF (s : State) : (raiseFatalUnhandledInterrupt s).accF = s.accF := rfl
@[simp] theorem raiseFatalUnhandledInterrupt_cntF (s : State) : (raiseFatalUnhandledInterrupt s).cntF = s.cntF := rfl
@[simp] theorem raiseFatalUnhandledInterrupt_fsum (s : State) : (raiseFatalUnhandledInterrupt s).fsum = s.fsum := rfl
@[simp] theorem raiseFatalUnhandledInterrupt_halted (s : State) : (raiseFatalUnhandledInterrupt s).halted = true := rfl
@[simp] theorem raiseFatalUnhandledInterrupt_faultSeen (s : State) : (raiseFatalUnhandledInterrupt s).faultSeen = true := rfl
@[simp] theorem raiseFatalUnhandledInterrupt_params (s : State) : (raiseFatalUnhandledInterrupt s).params = s.params := rfl
@[simp] theorem raiseFatalUnhandledInterrupt_res (s : State) : (raiseFatalUnhandledInterrupt s).res = s.res := rfl
@[simp] theorem raiseFatalUnhandledInterrupt_ops (s : State) : (raiseFatalUnhandledInterrupt s).ops = s.ops := rfl
@[simp] theorem raiseFatalUnhandledInterrupt_draws (s : State) : (raiseFatalUnhandledInterrupt s).draws = s.draws := rfl

/-! ## The timing capture -/

@[simp] theorem captureTiming_phase (s : State) : (captureTiming s).phase = s.phase := by
  cases h : s.tReady <;> simp [captureTiming, h]
@[simp] theorem captureTiming_coil (s : State) : (captureTiming s).coil = s.coil := by
  cases h : s.tReady <;> simp [captureTiming, h]
@[simp] theorem captureTiming_driveCfg (s : State) : (captureTiming s).driveCfg = s.driveCfg := by
  cases h : s.tReady <;> simp [captureTiming, h]
@[simp] theorem captureTiming_cie (s : State) : (captureTiming s).cie = s.cie := by
  cases h : s.tReady <;> simp [captureTiming, h]
@[simp] theorem captureTiming_cmpref (s : State) : (captureTiming s).cmpref = s.cmpref := by
  cases h : s.tReady <;> simp [captureTiming, h]
@[simp] theorem captureTiming_dtCount (s : State) : (captureTiming s).dtCount = s.dtCount := by
  cases h : s.tReady <;> simp [captureTiming, h]
@[simp] theorem captureTiming_dtOn (s : State) : (captureTiming s).dtOn = s.dtOn := by
  cases h : s.tReady <;> simp [captureTiming, h]
@[simp] theorem captureTiming_dtGate (s : State) : (captureTiming s).dtGate = s.dtGate := by
  cases h : s.tReady <;> simp [captureTiming, h]
@[simp] theorem captureTiming_dtPresc (s : State) : (captureTiming s).dtPresc = s.dtPresc := by
  cases h : s.tReady <;> simp [captureTiming, h]
@[simp] theorem captureTiming_pcnt (s : State) : (captureTiming s).pcnt = s.pcnt := by
  cases h : s.tReady <;> simp [captureTiming, h]
@[simp] theorem captureTiming_tReady (s : State) : (captureTiming s).tReady = true := by
  cases h : s.tReady <;> simp [captureTiming, h]
@[simp] theorem captureTiming_tCount (s : State) : (captureTiming s).tCount = if s.tReady then s.tCount else s.dtCount := by
  cases h : s.tReady <;> simp [captureTiming, h]
@[simp] theorem captureTiming_tEdges (s : State) : (captureTiming s).tEdges = if s.tReady then s.tEdges else s.pcnt := by
  cases h : s.tReady <;> simp [captureTiming, h]
@[simp] theorem captureTiming_fReady (s : State) : (captureTiming s).fReady = s.fReady := by
  cases h : s.tReady <;> simp [captureTiming, h]
@[simp] theorem captureTiming_fCount (s : State) : (captureTiming s).fCount = s.fCount := by
  cases h : s.tReady <;> simp [captureTiming, h]
@[simp] theorem captureTiming_pend (s : State) : (captureTiming s).pend = s.pend := by
  cases h : s.tReady <;> simp [captureTiming, h]
@[simp] theorem captureTiming_ringT (s : State) : (captureTiming s).ringT = s.ringT := by
  cases h : s.tReady <;> simp [captureTiming, h]
@[simp] theorem captureTiming_idxT (s : State) : (captureTiming s).idxT = s.idxT := by
  cases h : s.tReady <;> simp [captureTiming, h]
@[simp] theorem captureTiming_accT (s : State) : (captureTiming s).accT = s.accT := by
  cases h : s.tReady <;> simp [captureTiming, h]
@[simp] theorem captureTiming_cntT (s : State) : (captureTiming s).cntT = s.cntT := by
  cases h : s.tReady <;> simp [captureTiming, h]
@[simp] theorem captureTiming_tmax (s : State) : (captureTiming s).tmax = s.tmax := by
  cases h : s.tReady <;> simp [captureTiming, h]
@[simp] theorem captureTiming_ringF (s : State) : (captureTiming s).ringF = s.ringF := by
  cases h : s.tReady <;> simp [captureTiming, h]
@[simp] theorem captureTiming_idxF (s : State) : (captureTiming s).idxF = s.idxF := by
  cases h : s.tReady <;> simp [captureTiming, h]
@[simp] theorem captureTiming_accF (s : State) : (captureTiming s).accF = s.accF := by
  cases h : s.tReady <;> simp [captureTiming, h]
@[simp] theorem captureTiming_cntF (s : State) : (captureTiming s).cntF = s.cntF := by
  cases h : s.tReady <;> simp [captureTiming, h]
@[simp] theorem captureTiming_fsum (s : State) : (captureTiming s).fsum = s.fsum := by
  cases h : s.tReady <;> simp [captureTiming, h]
@[simp] theorem captureTiming_halted (s : State) : (captureTiming s).halted = s.halted := by
  cases h : s.tReady <;> simp [captureTiming, h]
@[simp] theorem captureTiming_faultSeen (s : State) : (captureTiming s).faultSeen = s.faultSeen := by
  cases h : s.tReady <;> simp [captureTiming, h]
@[simp] theorem captureTiming_params (s : State) : (captureTiming s).params = s.params := by
  cases h : s.tReady <;> simp [captureTiming, h]
@[simp] theorem captureTiming_res (s : State) : (captureTiming s).res = s.res := by
  cases h : s.tReady <;> simp [captureTiming, h]
@[simp] theorem captureTiming_ops (s : State) : (captureTiming s).ops = s.ops := by
  cases h : s.tReady <;> simp [captureTiming, h]
@[simp] theorem captureTiming_draws (s : State) : (captureTiming s).draws = s.draws := by
  cases h : s.tReady <;> simp [captureTiming, h]

/-! ## The frequency capture -/

@[simp] theorem captureFrequencySample_phase (s : State) : (captureFrequencySample s).phase = s.phase := by
  cases h : s.fReady <;> simp [captureFrequencySample, h]
@[simp] theorem captureFrequencySample_coil (s : State) : (captureFrequencySample s).coil = s.coil := by
  cases h : s.fReady <;> simp [captureFrequencySample, h]
@[simp] theorem captureFrequencySample_driveCfg (s : State) : (captureFrequencySample s).driveCfg = s.driveCfg := by
  cases h : s.fReady <;> simp [captureFrequencySample, h]
@[simp] theorem captureFrequencySample_cie (s : State) : (captureFrequencySample s).cie = s.cie := by
  cases h : s.fReady <;> simp [captureFrequencySample, h]
@[simp] theorem captureFrequencySample_cmpref (s : State) : (captureFrequencySample s).cmpref = s.cmpref := by
  cases h : s.fReady <;> simp [captureFrequencySample, h]
@[simp] theorem captureFrequencySample_dtCount (s : State) : (captureFrequencySample s).dtCount = s.dtCount := by
  cases h : s.fReady <;> simp [captureFrequencySample, h]
@[simp] theorem captureFrequencySample_dtOn (s : State) : (captureFrequencySample s).dtOn = s.dtOn := by
  cases h : s.fReady <;> simp [captureFrequencySample, h]
@[simp] theorem captureFrequencySample_dtGate (s : State) : (captureFrequencySample s).dtGate = s.dtGate := by
  cases h : s.fReady <;> simp [captureFrequencySample, h]
@[simp] theorem captureFrequencySample_dtPresc (s : State) : (captureFrequencySample s).dtPresc = s.dtPresc := by
  cases h : s.fReady <;> simp [captureFrequencySample, h]
@[simp] theorem captureFrequencySample_pcnt (s : State) : (captureFrequencySample s).pcnt = s.pcnt := by
  cases h : s.fReady <;> simp [captureFrequencySample, h]
@[simp] theorem captureFrequencySample_tReady (s : State) : (captureFrequencySample s).tReady = s.tReady := by
  cases h : s.fReady <;> simp [captureFrequencySample, h]
@[simp] theorem captureFrequencySample_tCount (s : State) : (captureFrequencySample s).tCount = s.tCount := by
  cases h : s.fReady <;> simp [captureFrequencySample, h]
@[simp] theorem captureFrequencySample_tEdges (s : State) : (captureFrequencySample s).tEdges = s.tEdges := by
  cases h : s.fReady <;> simp [captureFrequencySample, h]
@[simp] theorem captureFrequencySample_fReady (s : State) : (captureFrequencySample s).fReady = true := by
  cases h : s.fReady <;> simp [captureFrequencySample, h]
@[simp] theorem captureFrequencySample_fCount (s : State) : (captureFrequencySample s).fCount = if s.fReady then s.fCount else s.dtCount := by
  cases h : s.fReady <;> simp [captureFrequencySample, h]
@[simp] theorem captureFrequencySample_pend (s : State) : (captureFrequencySample s).pend = s.pend := by
  cases h : s.fReady <;> simp [captureFrequencySample, h]
@[simp] theorem captureFrequencySample_ringT (s : State) : (captureFrequencySample s).ringT = s.ringT := by
  cases h : s.fReady <;> simp [captureFrequencySample, h]
@[simp] theorem captureFrequencySample_idxT (s : State) : (captureFrequencySample s).idxT = s.idxT := by
  cases h : s.fReady <;> simp [captureFrequencySample, h]
@[simp] theorem captureFrequencySample_accT (s : State) : (captureFrequencySample s).accT = s.accT := by
  cases h : s.fReady <;> simp [captureFrequencySample, h]
@[simp] theorem captureFrequencySample_cntT (s : State) : (captureFrequencySample s).cntT = s.cntT := by
  cases h : s.fReady <;> simp [captureFrequencySample, h]
@[simp] theorem captureFrequencySample_tmax (s : State) : (captureFrequencySample s).tmax = s.tmax := by
  cases h : s.fReady <;> simp [captureFrequencySample, h]
@[simp] theorem captureFrequencySample_ringF (s : State) : (captureFrequencySample s).ringF = s.ringF := by
  cases h : s.fReady <;> simp [captureFrequencySample, h]
@[simp] theorem captureFrequencySample_idxF (s : State) : (captureFrequencySample s).idxF = s.idxF := by
  cases h : s.fReady <;> simp [captureFrequencySample, h]
@[simp] theorem captureFrequencySample_accF (s : State) : (captureFrequencySample s).accF = s.accF := by
  cases h : s.fReady <;> simp [captureFrequencySample, h]
@[simp] theorem captureFrequencySample_cntF (s : State) : (captureFrequencySample s).cntF = s.cntF := by
  cases h : s.fReady <;> simp [captureFrequencySample, h]
@[simp] theorem captureFrequencySample_fsum (s : State) : (captureFrequencySample s).fsum = s.fsum := by
  cases h : s.fReady <;> simp [captureFrequencySample, h]
@[simp] theorem captureFrequencySample_halted (s : State) : (captureFrequencySample s).halted = s.halted := by
  cases h : s.fReady <;> simp [captureFrequencySample, h]
@[simp] theorem captureFrequencySample_faultSeen (s : State) : (captureFrequencySample s).faultSeen = s.faultSeen := by
  cases h : s.fReady <;> simp [captureFrequencySample, h]
@[simp] theorem captureFrequencySample_params (s : State) : (captureFrequencySample s).params = s.params := by
  cases h : s.fReady <;> simp [captureFrequencySample, h]
@[simp] theorem captureFrequencySample_res (s : State) : (captureFrequencySample s).res = s.res := by
  cases h : s.fReady <;> simp [captureFrequencySample, h]
@[simp] theorem captureFrequencySample_ops (s : State) : (captureFrequencySample s).ops = s.ops := by
  cases h : s.fReady <;> simp [captureFrequencySample, h]
@[simp] theorem captureFrequencySample_draws (s : State) : (captureFrequencySample s).draws = s.draws := by
  cases h : s.fReady <;> simp [captureFrequencySample, h]

/-! ## ArmGate -/

@[simp] theorem armGate_phase (s : State) : (armGate s).phase = s.phase := rfl
@[simp] theorem armGate_coil (s : State) : (armGate s).coil = s.coil := rfl
@[simp] theorem armGate_driveCfg (s : State) : (armGate s).driveCfg = s.driveCfg := rfl
@[simp] theorem armGate_cie (s : State) : (armGate s).cie = s.cie := rfl
@[simp] theorem armGate_cmpref (s : State) : (armGate s).cmpref = s.cmpref := rfl
@[simp] theorem armGate_dtCount (s : State) : (armGate s).dtCount = s.dtCount := rfl
@[simp] theorem armGate_dtOn (s : State) : (armGate s).dtOn = s.dtOn := rfl
@[simp] theorem armGate_dtGate (s : State) : (armGate s).dtGate = true := rfl
@[simp] theorem armGate_dtPresc (s : State) : (armGate s).dtPresc = s.dtPresc := rfl
@[simp] theorem armGate_pcnt (s : State) : (armGate s).pcnt = s.pcnt := rfl
@[simp] theorem armGate_tReady (s : State) : (armGate s).tReady = s.tReady := rfl
@[simp] theorem armGate_tCount (s : State) : (armGate s).tCount = s.tCount := rfl
@[simp] theorem armGate_tEdges (s : State) : (armGate s).tEdges = s.tEdges := rfl
@[simp] theorem armGate_fReady (s : State) : (armGate s).fReady = s.fReady := rfl
@[simp] theorem armGate_fCount (s : State) : (armGate s).fCount = s.fCount := rfl
@[simp] theorem armGate_pend (s : State) : (armGate s).pend = s.pend := rfl
@[simp] theorem armGate_ringT (s : State) : (armGate s).ringT = s.ringT := rfl
@[simp] theorem armGate_idxT (s : State) : (armGate s).idxT = s.idxT := rfl
@[simp] theorem armGate_accT (s : State) : (armGate s).accT = s.accT := rfl
@[simp] theorem armGate_cntT (s : State) : (armGate s).cntT = s.cntT := rfl
@[simp] theorem armGate_tmax (s : State) : (armGate s).tmax = s.tmax := rfl
@[simp] theorem armGate_ringF (s : State) : (armGate s).ringF = s.ringF := rfl
@[simp] theorem armGate_idxF (s : State) : (armGate s).idxF = s.idxF := rfl
@[simp] theorem armGate_accF (s : State) : (armGate s).accF = s.accF := rfl
@[simp] theorem armGate_cntF (s : State) : (armGate s).cntF = s.cntF := rfl
@[simp] theorem armGate_fsum (s : State) : (armGate s).fsum = s.fsum := rfl
@[simp] theorem armGate_halted (s : State) : (armGate s).halted = s.halted := rfl
@[simp] theorem armGate_faultSeen (s : State) : (armGate s).faultSeen = s.faultSeen := rfl
@[simp] theorem armGate_params (s : State) : (armGate s).params = s.params := rfl
@[simp] theorem armGate_res (s : State) : (armGate s).res = s.res := rfl
@[simp] theorem armGate_ops (s : State) : (armGate s).ops = s.ops := rfl
@[simp] theorem armGate_draws (s : State) : (armGate s).draws = s.draws := rfl

/-! ## CaptureFrequency -/

@[simp] theorem captureFrequency_phase (s : State) : (captureFrequency s).phase = s.phase := by
  simp [captureFrequency]
@[simp] theorem captureFrequency_coil (s : State) : (captureFrequency s).coil = s.coil := by
  simp [captureFrequency]
@[simp] theorem captureFrequency_driveCfg (s : State) : (captureFrequency s).driveCfg = s.driveCfg := by
  simp [captureFrequency]
@[simp] theorem captureFrequency_cie (s : State) : (captureFrequency s).cie = false := by
  simp [captureFrequency]
@[simp] theorem captureFrequency_cmpref (s : State) : (captureFrequency s).cmpref = s.cmpref := by
  simp [captureFrequency]
@[simp] theorem captureFrequency_dtCount (s : State) : (captureFrequency s).dtCount = 0 := by
  simp [captureFrequency]
@[simp] theorem captureFrequency_dtOn (s : State) : (captureFrequency s).dtOn = true := by
  simp [captureFrequency]
@[simp] theorem captureFrequency_dtGate (s : State) : (captureFrequency s).dtGate = false := by
  simp [captureFrequency]
@[simp] theorem captureFrequency_dtPresc (s : State) : (captureFrequency s).dtPresc = .prescFull := by
  simp [captureFrequency]
@[simp] theorem captureFrequency_pcnt (s : State) : (captureFrequency s).pcnt = s.pcnt := by
  simp [captureFrequency]
@[simp] theorem captureFrequency_tReady (s : State) : (captureFrequency s).tReady = s.tReady := by
  simp [captureFrequency]
@[simp] theorem captureFrequency_tCount (s : State) : (captureFrequency s).tCount = s.tCount := by
  simp [captureFrequency]
@[simp] theorem captureFrequency_tEdges (s : State) : (captureFrequency s).tEdges = s.tEdges := by
  simp [captureFrequency]
@[simp] theorem captureFrequency_fReady (s : State) : (captureFrequency s).fReady = true := by
  simp [captureFrequency]
@[simp] theorem captureFrequency_fCount (s : State) : (captureFrequency s).fCount = if s.fReady then s.fCount else s.dtCount := by
  simp [captureFrequency]
@[simp] theorem captureFrequency_pend (s : State) : (captureFrequency s).pend = s.pend := by
  simp [captureFrequency]
@[simp] theorem captureFrequency_ringT (s : State) : (captureFrequency s).ringT = s.ringT := by
  simp [captureFrequency]
@[simp] theorem captureFrequency_idxT (s : State) : (captureFrequency s).idxT = s.idxT := by
  simp [captureFrequency]
@[simp] theorem captureFrequency_accT (s : State) : (captureFrequency s).accT = s.accT := by
  simp [captureFrequency]
@[simp] theorem captureFrequency_cntT (s : State) : (captureFrequency s).cntT = s.cntT := by
  simp [captureFrequency]
@[simp] theorem captureFrequency_tmax (s : State) : (captureFrequency s).tmax = s.tmax := by
  simp [captureFrequency]
@[simp] theorem captureFrequency_ringF (s : State) : (captureFrequency s).ringF = s.ringF := by
  simp [captureFrequency]
@[simp] theorem captureFrequency_idxF (s : State) : (captureFrequency s).idxF = s.idxF := by
  simp [captureFrequency]
@[simp] theorem captureFrequency_accF (s : State) : (captureFrequency s).accF = s.accF := by
  simp [captureFrequency]
@[simp] theorem captureFrequency_cntF (s : State) : (captureFrequency s).cntF = s.cntF := by
  simp [captureFrequency]
@[simp] theorem captureFrequency_fsum (s : State) : (captureFrequency s).fsum = s.fsum := by
  simp [captureFrequency]
@[simp] theorem captureFrequency_halted (s : State) : (captureFrequency s).halted = s.halted := by
  simp [captureFrequency]
@[simp] theorem captureFrequency_faultSeen (s : State) : (captureFrequency s).faultSeen = s.faultSeen := by
  simp [captureFrequency]
@[simp] theorem captureFrequency_params (s : State) : (captureFrequency s).params = s.params := by
  simp [captureFrequency]
@[simp] theorem captureFrequency_res (s : State) : (captureFrequency s).res = s.res := by
  simp [captureFrequency]
@[simp] theorem captureFrequency_ops (s : State) : (captureFrequency s).ops = s.ops := by
  simp [captureFrequency]
@[simp] theorem captureFrequency_draws (s : State) : (captureFrequency s).draws = s.draws := by
  simp [captureFrequency]

/-! ## PulseActiveEntry -/

@[simp] theorem pulseActiveEntry_phase (s : State) : (pulseActiveEntry s).phase = .pulse := by
  simp [pulseActiveEntry]
@[simp] theorem pulseActiveEntry_coil (s : State) : (pulseActiveEntry s).coil = true := by
  simp [pulseActiveEntry]
@[simp] theorem pulseActiveEntry_driveCfg (s : State) : (pulseActiveEntry s).driveCfg = .cfgPulse := by
  simp [pulseActiveEntry]
@[simp] theorem pulseActiveEntry_cie (s : State) : (pulseActiveEntry s).cie = false := by
  simp [pulseActiveEntry]
@[simp] theorem pulseActiveEntry_cmpref (s : State) : (pulseActiveEntry s).cmpref = s.cmpref := by
  simp [pulseActiveEntry]
@[simp] theorem pulseActiveEntry_dtCount (s : State) : (pulseActiveEntry s).dtCount = 0 := by
  simp [pulseActiveEntry]
@[simp] theorem pulseActiveEntry_dtOn (s : State) : (pulseActiveEntry s).dtOn = false := by
  simp [pulseActiveEntry]
@[simp] theorem pulseActiveEntry_dtGate (s : State) : (pulseActiveEntry s).dtGate = false := by
  simp [pulseActiveEntry]
@[simp] theorem pulseActiveEntry_dtPresc (s : State) : (pulseActiveEntry s).dtPresc = s.dtPresc := by
  simp [pulseActiveEntry]
@[simp] theorem pulseActiveEntry_pcnt (s : State) : (pulseActiveEntry s).pcnt = s.pcnt := by
  simp [pulseActiveEntry]
@[simp] theorem pulseActiveEntry_tReady (s : State) : (pulseActiveEntry s).tReady = true := by
  simp [pulseActiveEntry]
@[simp] theorem pulseActiveEntry_tCount (s : State) : (pulseActiveEntry s).tCount = if s.tReady then s.tCount else s.dtCount := by
  simp [pulseActiveEntry]
@[simp] theorem pulseActiveEntry_tEdges (s : State) : (pulseActiveEntry s).tEdges = if s.tReady then s.tEdges else s.pcnt := by
  simp [pulseActiveEntry]
@[simp] theorem pulseActiveEntry_fReady (s : State) : (pulseActiveEntry s).fReady = s.fReady := by
  simp [pulseActiveEntry]
@[simp] theorem pulseActiveEntry_fCount (s : State) : (pulseActiveEntry s).fCount = s.fCount := by
  simp [pulseActiveEntry]
@[simp] theorem pulseActiveEntry_pend (s : State) : (pulseActiveEntry s).pend = s.pend := by
  simp [pulseActiveEntry]
@[simp] theorem pulseActiveEntry_ringT (s : State) : (pulseActiveEntry s).ringT = s.ringT := by
  simp [pulseActiveEntry]
@[simp] theorem pulseActiveEntry_idxT (s : State) : (pulseActiveEntry s).idxT = s.idxT := by
  simp [pulseActiveEntry]
@[simp] theorem pulseActiveEntry_accT (s : State) : (pulseActiveEntry s).accT = s.accT := by
  simp [pulseActiveEntry]
@[simp] theorem pulseActiveEntry_cntT (s : State) : (pulseActiveEntry s).cntT = s.cntT := by
  simp [pulseActiveEntry]
@[simp] theorem pulseActiveEntry_tmax (s : State) : (pulseActiveEntry s).tmax = s.tmax := by
  simp [pulseActiveEntry]
@[simp] theorem pulseActiveEntry_ringF (s : State) : (pulseActiveEntry s).ringF = s.ringF := by
  simp [pulseActiveEntry]
@[simp] theorem pulseActiveEntry_idxF (s : State) : (pulseActiveEntry s).idxF = s.idxF := by
  simp [pulseActiveEntry]
@[simp] theorem pulseActiveEntry_accF (s : State) : (pulseActiveEntry s).accF = s.accF := by
  simp [pulseActiveEntry]
@[simp] theorem pulseActiveEntry_cntF (s : State) : (pulseActiveEntry s).cntF = s.cntF := by
  simp [pulseActiveEntry]
@[simp] theorem pulseActiveEntry_fsum (s : State) : (pulseActiveEntry s).fsum = s.fsum := by
  simp [pulseActiveEntry]
@[simp] theorem pulseActiveEntry_halted (s : State) : (pulseActiveEntry s).halted = s.halted := by
  simp [pulseActiveEntry]
@[simp] theorem pulseActiveEntry_faultSeen (s : State) : (pulseActiveEntry s).faultSeen = s.faultSeen := by
  simp [pulseActiveEntry]
@[simp] theorem pulseActiveEntry_params (s : State) : (pulseActiveEntry s).params = s.params := by
  simp [pulseActiveEntry]
@[simp] theorem pulseActiveEntry_res (s : State) : (pulseActiveEntry s).res = s.res := by
  simp [pulseActiveEntry]
@[simp] theorem pulseActiveEntry_ops (s : State) : (pulseActiveEntry s).ops = s.ops := by
  simp [pulseActiveEntry]
@[simp] theorem pulseActiveEntry_draws (s : State) : (pulseActiveEntry s).draws = s.draws := by
  simp [pulseActiveEntry]

/-! ## PulseInactiveEntry -/

@[simp] theorem pulseInactiveEntry_phase (s : State) : (pulseInactiveEntry s).phase = .pause := rfl
@[simp] theorem pulseInactiveEntry_coil (s : State) : (pulseInactiveEntry s).coil = false := rfl
@[simp] theorem pulseInactiveEntry_driveCfg (s : State) : (pulseInactiveEntry s).driveCfg = .cfgPause := rfl
@[simp] theorem pulseInactiveEntry_cie (s : State) : (pulseInactiveEntry s).cie = true := rfl
@[simp] theorem pulseInactiveEntry_cmpref (s : State) : (pulseInactiveEntry s).cmpref = s.cmpref := rfl
@[simp] theorem pulseInactiveEntry_dtCount (s : State) : (pulseInactiveEntry s).dtCount = s.dtCount := rfl
@[simp] theorem pulseInactiveEntry_dtOn (s : State) : (pulseInactiveEntry s).dtOn = true := rfl
@[simp] theorem pulseInactiveEntry_dtGate (s : State) : (pulseInactiveEntry s).dtGate = false := rfl
@[simp] theorem pulseInactiveEntry_dtPresc (s : State) : (pulseInactiveEntry s).dtPresc = s.dtPresc := rfl
@[simp] theorem pulseInactiveEntry_pcnt (s : State) : (pulseInactiveEntry s).pcnt = 0 := rfl
@[simp] theorem pulseInactiveEntry_tReady (s : State) : (pulseInactiveEntry s).tReady = s.tReady := rfl
@[simp] theorem pulseInactiveEntry_tCount (s : State) : (pulseInactiveEntry s).tCount = s.tCount := rfl
@[simp] theorem pulseInactiveEntry_tEdges (s : State) : (pulseInactiveEntry s).tEdges = s.tEdges := rfl
@[simp] theorem pulseInactiveEntry_fReady (s : State) : (pulseInactiveEntry s).fReady = s.fReady := rfl
@[simp] theorem pulseInactiveEntry_fCount (s : State) : (pulseInactiveEntry s).fCount = s.fCount := rfl
@[simp] theorem pulseInactiveEntry_pend (s : State) : (pulseInactiveEntry s).pend = s.pend := rfl
@[simp] theorem pulseInactiveEntry_ringT (s : State) : (pulseInactiveEntry s).ringT = s.ringT := rfl
@[simp] theorem pulseInactiveEntry_idxT (s : State) : (pulseInactiveEntry s).idxT = s.idxT := rfl
@[simp] theorem pulseInactiveEntry_accT (s : State) : (pulseInactiveEntry s).accT = s.accT := rfl
@[simp] theorem pulseInactiveEntry_cntT (s : State) : (pulseInactiveEntry s).cntT = s.cntT := rfl
@[simp] theorem pulseInactiveEntry_tmax (s : State) : (pulseInactiveEntry s).tmax = s.tmax := rfl
@[simp] theorem pulseInactiveEntry_ringF (s : State) : (pulseInactiveEntry s).ringF = s.ringF := rfl
@[simp] theorem pulseInactiveEntry_idxF (s : State) : (pulseInactiveEntry s).idxF = s.idxF := rfl
@[simp] theorem pulseInactiveEntry_accF (s : State) : (pulseInactiveEntry s).accF = s.accF := rfl
@[simp] theorem pulseInactiveEntry_cntF (s : State) : (pulseInactiveEntry s).cntF = s.cntF := rfl
@[simp] theorem pulseInactiveEntry_fsum (s : State) : (pulseInactiveEntry s).fsum = s.fsum := rfl
@[simp] theorem pulseInactiveEntry_halted (s : State) : (pulseInactiveEntry s).halted = s.halted := rfl
@[simp] theorem pulseInactiveEntry_faultSeen (s : State) : (pulseInactiveEntry s).faultSeen = s.faultSeen := rfl
@[simp] theorem pulseInactiveEntry_params (s : State) : (pulseInactiveEntry s).params = s.params := rfl
@[simp] theorem pulseInactiveEntry_res (s : State) : (pulseInactiveEntry s).res = s.res := rfl
@[simp] theorem pulseInactiveEntry_ops (s : State) : (pulseInactiveEntry s).ops = s.ops := rfl
@[simp] theorem pulseInactiveEntry_draws (s : State) : (pulseInactiveEntry s).draws = s.draws := rfl

/-! ## One decay-timer count -/

@[simp] theorem countDecay_phase (s : State) : (countDecay s).phase = s.phase := rfl
@[simp] theorem countDecay_coil (s : State) : (countDecay s).coil = s.coil := rfl
@[simp] theorem countDecay_driveCfg (s : State) : (countDecay s).driveCfg = s.driveCfg := rfl
@[simp] theorem countDecay_cie (s : State) : (countDecay s).cie = s.cie := rfl
@[simp] theorem countDecay_cmpref (s : State) : (countDecay s).cmpref = s.cmpref := rfl
@[simp] theorem countDecay_dtCount (s : State) : (countDecay s).dtCount = (s.dtCount + 1) % 2 ^ s.params.dw := rfl
@[simp] theorem countDecay_dtOn (s : State) : (countDecay s).dtOn = s.dtOn := rfl
@[simp] theorem countDecay_dtGate (s : State) : (countDecay s).dtGate = s.dtGate := rfl
@[simp] theorem countDecay_dtPresc (s : State) : (countDecay s).dtPresc = s.dtPresc := rfl
@[simp] theorem countDecay_pcnt (s : State) : (countDecay s).pcnt = s.pcnt := rfl
@[simp] theorem countDecay_tReady (s : State) : (countDecay s).tReady = s.tReady := rfl
@[simp] theorem countDecay_tCount (s : State) : (countDecay s).tCount = s.tCount := rfl
@[simp] theorem countDecay_tEdges (s : State) : (countDecay s).tEdges = s.tEdges := rfl
@[simp] theorem countDecay_fReady (s : State) : (countDecay s).fReady = s.fReady := rfl
@[simp] theorem countDecay_fCount (s : State) : (countDecay s).fCount = s.fCount := rfl
@[simp] theorem countDecay_pend (s : State) : (countDecay s).pend = s.pend := rfl
@[simp] theorem countDecay_ringT (s : State) : (countDecay s).ringT = s.ringT := rfl
@[simp] theorem countDecay_idxT (s : State) : (countDecay s).idxT = s.idxT := rfl
@[simp] theorem countDecay_accT (s : State) : (countDecay s).accT = s.accT := rfl
@[simp] theorem countDecay_cntT (s : State) : (countDecay s).cntT = s.cntT := rfl
@[simp] theorem countDecay_tmax (s : State) : (countDecay s).tmax = s.tmax := rfl
@[simp] theorem countDecay_ringF (s : State) : (countDecay s).ringF = s.ringF := rfl
@[simp] theorem countDecay_idxF (s : State) : (countDecay s).idxF = s.idxF := rfl
@[simp] theorem countDecay_accF (s : State) : (countDecay s).accF = s.accF := rfl
@[simp] theorem countDecay_cntF (s : State) : (countDecay s).cntF = s.cntF := rfl
@[simp] theorem countDecay_fsum (s : State) : (countDecay s).fsum = s.fsum := rfl
@[simp] theorem countDecay_halted (s : State) : (countDecay s).halted = s.halted := rfl
@[simp] theorem countDecay_faultSeen (s : State) : (countDecay s).faultSeen = s.faultSeen := rfl
@[simp] theorem countDecay_params (s : State) : (countDecay s).params = s.params := rfl
@[simp] theorem countDecay_res (s : State) : (countDecay s).res = s.res := rfl
@[simp] theorem countDecay_ops (s : State) : (countDecay s).ops = s.ops := rfl
@[simp] theorem countDecay_draws (s : State) : (countDecay s).draws = s.draws := rfl

/-! ## R0 -/

@[simp] theorem State.r0_phase (p : Params) (n : Nat) : (State.r0 p n).phase = .pause := rfl
@[simp] theorem State.r0_coil (p : Params) (n : Nat) : (State.r0 p n).coil = false := rfl
@[simp] theorem State.r0_driveCfg (p : Params) (n : Nat) : (State.r0 p n).driveCfg = Config.freeDriveCfg n := rfl
@[simp] theorem State.r0_cie (p : Params) (n : Nat) : (State.r0 p n).cie = false := rfl
@[simp] theorem State.r0_cmpref (p : Params) (n : Nat) : (State.r0 p n).cmpref = p.cmprefInit := rfl
@[simp] theorem State.r0_dtCount (p : Params) (n : Nat) : (State.r0 p n).dtCount = 0 := rfl
@[simp] theorem State.r0_dtOn (p : Params) (n : Nat) : (State.r0 p n).dtOn = false := rfl
@[simp] theorem State.r0_dtGate (p : Params) (n : Nat) : (State.r0 p n).dtGate = false := rfl
@[simp] theorem State.r0_dtPresc (p : Params) (n : Nat) : (State.r0 p n).dtPresc = Config.freeDecayPresc n := rfl
@[simp] theorem State.r0_pcnt (p : Params) (n : Nat) : (State.r0 p n).pcnt = 0 := rfl
@[simp] theorem State.r0_tReady (p : Params) (n : Nat) : (State.r0 p n).tReady = false := rfl
@[simp] theorem State.r0_tCount (p : Params) (n : Nat) : (State.r0 p n).tCount = 0 := rfl
@[simp] theorem State.r0_tEdges (p : Params) (n : Nat) : (State.r0 p n).tEdges = 0 := rfl
@[simp] theorem State.r0_fReady (p : Params) (n : Nat) : (State.r0 p n).fReady = false := rfl
@[simp] theorem State.r0_fCount (p : Params) (n : Nat) : (State.r0 p n).fCount = 0 := rfl
@[simp] theorem State.r0_pend (p : Params) (n : Nat) : (State.r0 p n).pend = .clear := rfl
@[simp] theorem State.r0_ringT (p : Params) (n : Nat) : (State.r0 p n).ringT = List.replicate p.nr 0 := rfl
@[simp] theorem State.r0_idxT (p : Params) (n : Nat) : (State.r0 p n).idxT = 0 := rfl
@[simp] theorem State.r0_accT (p : Params) (n : Nat) : (State.r0 p n).accT = 0 := rfl
@[simp] theorem State.r0_cntT (p : Params) (n : Nat) : (State.r0 p n).cntT = 0 := rfl
@[simp] theorem State.r0_tmax (p : Params) (n : Nat) : (State.r0 p n).tmax = 0 := rfl
@[simp] theorem State.r0_ringF (p : Params) (n : Nat) : (State.r0 p n).ringF = List.replicate p.nr 0 := rfl
@[simp] theorem State.r0_idxF (p : Params) (n : Nat) : (State.r0 p n).idxF = 0 := rfl
@[simp] theorem State.r0_accF (p : Params) (n : Nat) : (State.r0 p n).accF = 0 := rfl
@[simp] theorem State.r0_cntF (p : Params) (n : Nat) : (State.r0 p n).cntF = 0 := rfl
@[simp] theorem State.r0_fsum (p : Params) (n : Nat) : (State.r0 p n).fsum = 0 := rfl
@[simp] theorem State.r0_halted (p : Params) (n : Nat) : (State.r0 p n).halted = false := rfl
@[simp] theorem State.r0_faultSeen (p : Params) (n : Nat) : (State.r0 p n).faultSeen = false := rfl
@[simp] theorem State.r0_params (p : Params) (n : Nat) : (State.r0 p n).params = p := rfl
@[simp] theorem State.r0_res (p : Params) (n : Nat) : (State.r0 p n).res = .nothing := rfl
@[simp] theorem State.r0_ops (p : Params) (n : Nat) : (State.r0 p n).ops = [] := rfl
@[simp] theorem State.r0_draws (p : Params) (n : Nat) : (State.r0 p n).draws = n + 1 := rfl

/-! ## RESET -/

@[simp] theorem resetBlock_phase (s : State) : (resetBlock s).phase = .pause := rfl
@[simp] theorem resetBlock_coil (s : State) : (resetBlock s).coil = false := rfl
@[simp] theorem resetBlock_driveCfg (s : State) : (resetBlock s).driveCfg = Config.freeDriveCfg s.draws := rfl
@[simp] theorem resetBlock_cie (s : State) : (resetBlock s).cie = false := rfl
@[simp] theorem resetBlock_cmpref (s : State) : (resetBlock s).cmpref = s.params.cmprefInit := rfl
@[simp] theorem resetBlock_dtCount (s : State) : (resetBlock s).dtCount = 0 := rfl
@[simp] theorem resetBlock_dtOn (s : State) : (resetBlock s).dtOn = false := rfl
@[simp] theorem resetBlock_dtGate (s : State) : (resetBlock s).dtGate = false := rfl
@[simp] theorem resetBlock_dtPresc (s : State) : (resetBlock s).dtPresc = Config.freeDecayPresc s.draws := rfl
@[simp] theorem resetBlock_pcnt (s : State) : (resetBlock s).pcnt = 0 := rfl
@[simp] theorem resetBlock_tReady (s : State) : (resetBlock s).tReady = false := rfl
@[simp] theorem resetBlock_tCount (s : State) : (resetBlock s).tCount = 0 := rfl
@[simp] theorem resetBlock_tEdges (s : State) : (resetBlock s).tEdges = 0 := rfl
@[simp] theorem resetBlock_fReady (s : State) : (resetBlock s).fReady = false := rfl
@[simp] theorem resetBlock_fCount (s : State) : (resetBlock s).fCount = 0 := rfl
@[simp] theorem resetBlock_pend (s : State) : (resetBlock s).pend = .clear := rfl
@[simp] theorem resetBlock_ringT (s : State) : (resetBlock s).ringT = List.replicate s.params.nr 0 := rfl
@[simp] theorem resetBlock_idxT (s : State) : (resetBlock s).idxT = 0 := rfl
@[simp] theorem resetBlock_accT (s : State) : (resetBlock s).accT = 0 := rfl
@[simp] theorem resetBlock_cntT (s : State) : (resetBlock s).cntT = 0 := rfl
@[simp] theorem resetBlock_tmax (s : State) : (resetBlock s).tmax = 0 := rfl
@[simp] theorem resetBlock_ringF (s : State) : (resetBlock s).ringF = List.replicate s.params.nr 0 := rfl
@[simp] theorem resetBlock_idxF (s : State) : (resetBlock s).idxF = 0 := rfl
@[simp] theorem resetBlock_accF (s : State) : (resetBlock s).accF = 0 := rfl
@[simp] theorem resetBlock_cntF (s : State) : (resetBlock s).cntF = 0 := rfl
@[simp] theorem resetBlock_fsum (s : State) : (resetBlock s).fsum = 0 := rfl
@[simp] theorem resetBlock_halted (s : State) : (resetBlock s).halted = false := rfl
@[simp] theorem resetBlock_faultSeen (s : State) : (resetBlock s).faultSeen = s.faultSeen := rfl
@[simp] theorem resetBlock_params (s : State) : (resetBlock s).params = s.params := rfl
@[simp] theorem resetBlock_res (s : State) : (resetBlock s).res = s.res := rfl
@[simp] theorem resetBlock_ops (s : State) : (resetBlock s).ops = s.ops := rfl
@[simp] theorem resetBlock_draws (s : State) : (resetBlock s).draws = s.draws + 1 := rfl

end Sys2Proof.Machine
end

