-- ==== Sys2Proof/Laws/Ops.lean ====
section
/-! SUPPORT. What each shared operation can do, said once. -/

namespace Sys2Proof.Machine

/-! ## Pending flags -/

@[simp] theorem pending_get_set_same (q : Pending) (b : Bool) (src : Source) : (q.set b src).get src = b := by
  cases src <;> rfl

theorem pending_get_set_other (q : Pending) (b : Bool) {src other : Source} (h : other ≠ src) :
    (q.set b src).get other = q.get other := by
  cases src <;> cases other <;> first | rfl | exact absurd rfl h

/-! ## When an operation has a step -/

theorem whileRunning_running {s : State} (t : State) (h : s.halted = false) : whileRunning s t = .next t := by
  simp [whileRunning, h]

theorem whileRunning_halted {s : State} (t : State) (h : s.halted = true) : whileRunning s t = .fault .halted := by
  simp [whileRunning, h]

theorem whileRunning_eq_next {s t u : State} : whileRunning s t = .next u ↔ s.halted = false ∧ t = u := by
  cases h : s.halted <;> simp [whileRunning, h]

theorem withSample_eq_next {x : Operand} {s u : State} {f : Nat → State → State} :
    withSample x s f = .next u ↔ x.toNat < 2 ^ s.params.dw ∧ s.halted = false ∧ f x.toNat s = u := by
  by_cases h : x.toNat < 2 ^ s.params.dw <;> simp [withSample, sampleFits, sampleValue, h, whileRunning_eq_next]

theorem withSample_running {x : Operand} {s : State} (f : Nat → State → State)
    (hx : x.toNat < 2 ^ s.params.dw) (h : s.halted = false) : withSample x s f = .next (f x.toNat s) :=
  withSample_eq_next.mpr ⟨hx, h, rfl⟩

/-! ## Enables, requests and checks -/

theorem enabled_eq_true {s : State} {src : Source} : enabled s src = true ↔ (src = .comp → s.cie = true) := by
  cases src <;> simp [enabled]

theorem mem_allSources (src : Source) : src ∈ allSources := by
  cases src <;> decide

theorem mem_checkOrder {src : Source} : src ∈ checkOrder ↔ src ≠ .unknown := by
  cases src <;> decide

theorem irq_eq_true {s : State} :
    irq s = true ↔ ∃ src, s.pend.get src = true ∧ (src = .comp → s.cie = true) := by
  simp [irq, List.any_eq_true, mem_allSources, enabled_eq_true]

theorem chk_eq_true {s : State} {src : Source} :
    chk s src = true ↔
      s.pend.get src = true ∧ (src = .comp → s.cie = true ∨ s.params.cmpCheckUsesEnable = false) := by
  cases src <;> simp [chk]

/-- The source selected is a known one whose check passes, and no source before it in check order passes. -/
theorem selected_eq_some {s : State} {src : Source} (h : selected s = some src) :
    src ≠ .unknown ∧ chk s src = true := by
  have hm := List.mem_of_find?_eq_some h
  exact ⟨mem_checkOrder.mp hm, List.find?_some h⟩

theorem selected_eq_none {s : State} : selected s = none ↔ ∀ src, src ≠ .unknown → chk s src = false := by
  simp [selected, List.find?_eq_none, mem_checkOrder]

end Sys2Proof.Machine
end

