-- ==== Sys2Proof/Laws/Interrupts.lean ====
section
/-! SUPPORT. The services of the interrupt routine and what it can do. -/

namespace Sys2Proof.Machine

theorem coilService_pause {s : State} (h : s.phase = .pause) : coilService s = pulseActiveEntry s := by
  simp [coilService, h]

theorem coilService_pulse {s : State} (h : s.phase = .pulse) : coilService s = pulseInactiveEntry s := by
  simp [coilService, h]

/-- The edge service arms, captures or only counts. -/
theorem edgeService_cases (s : State) :
    (comparedCount s = s.params.edgeArm ∧ edgeService s = armGate { s with pcnt := incrementedCount s }) ∨
    (comparedCount s ≠ s.params.edgeArm ∧ comparedCount s = s.params.edgeCap ∧
      edgeService s = captureFrequency { s with pcnt := incrementedCount s }) ∨
    (comparedCount s ≠ s.params.edgeArm ∧ comparedCount s ≠ s.params.edgeCap ∧
      edgeService s = { s with pcnt := incrementedCount s }) := by
  by_cases ha : comparedCount s = s.params.edgeArm
  · exact .inl ⟨ha, by simp [edgeService, ha]⟩
  · by_cases hc : comparedCount s = s.params.edgeCap
    · exact .inr (.inl ⟨ha, hc, by rw [edgeService, if_neg ha, if_pos hc]⟩)
    · exact .inr (.inr ⟨ha, hc, by simp [edgeService, ha, hc]⟩)

/-- Everything one run of the interrupt routine can do: the coil service, the edge service, an outside service, or
the fatal fallback. -/
theorem interruptRoutine_cases (s : State) :
    (chk s .coil = true ∧ interruptRoutine s = coilService (acknowledge .coil s)) ∨
    (chk s .coil = false ∧ chk s .comp = true ∧ interruptRoutine s = edgeService (acknowledge .comp s)) ∨
    (∃ src, (src = .audio ∨ src = .millis ∨ src = .serTx ∨ src = .serRx) ∧ chk s src = true ∧
      selected s = some src ∧ interruptRoutine s = acknowledge src s) ∨
    (selected s = none ∧ interruptRoutine s = raiseFatalUnhandledInterrupt s) := by
  unfold interruptRoutine
  cases h : selected s with
  | none => exact .inr (.inr (.inr ⟨rfl, rfl⟩))
  | some src =>
    obtain ⟨hu, hc⟩ := selected_eq_some h
    cases src with
    | coil => exact .inl ⟨hc, rfl⟩
    | comp =>
      refine .inr (.inl ⟨?_, hc, rfl⟩)
      cases hcoil : chk s .coil with
      | false => rfl
      | true => simp [selected, checkOrder, hcoil] at h
    | audio => exact .inr (.inr (.inl ⟨.audio, by simp, hc, rfl, rfl⟩))
    | millis => exact .inr (.inr (.inl ⟨.millis, by simp, hc, rfl, rfl⟩))
    | serTx => exact .inr (.inr (.inl ⟨.serTx, by simp, hc, rfl, rfl⟩))
    | serRx => exact .inr (.inr (.inl ⟨.serRx, by simp, hc, rfl, rfl⟩))
    | unknown => exact absurd rfl hu

end Sys2Proof.Machine
end

