-- ==== Sys2Proof/Laws/Smoothers.lean ====
section
/-! SUPPORT. The batch step, the ring and the two pushes. -/

namespace Sys2Proof.Machine

/-! ## The batch step -/

theorem batch_complete {nb acc cnt x : Nat} (h : cnt + 1 = nb) :
    batch nb acc cnt x = ⟨some ((acc + x) / nb), 0, 0⟩ := by
  simp [batch, h]

theorem batch_partial {nb acc cnt x : Nat} (h : cnt + 1 ≠ nb) :
    batch nb acc cnt x = ⟨none, acc + x, cnt + 1⟩ := by
  simp [batch, h]

/-- A batch of samples bounded by `m` averages to at most `m`. -/
theorem batch_average_le {nb acc cnt x m : Nat} (hc : cnt + 1 = nb) (hacc : acc ≤ cnt * m) (hx : x ≤ m) :
    (acc + x) / nb ≤ m := by
  subst hc
  apply Nat.div_le_of_le_mul
  rw [Nat.add_mul, Nat.one_mul]
  exact Nat.add_le_add hacc hx

theorem advance_lt {nr idx : Nat} (h : 1 ≤ nr) : advance nr idx < nr := by
  unfold advance; split <;> omega

/-! ## The ring -/

/-- Overwriting a slot changes the sum by the slot's old and new value. -/
theorem sum_set {ring : List Nat} {i : Nat} (v : Nat) (h : i < ring.length) :
    (ring.set i v).sum = ring.sum - ring.getD i 0 + v := by
  induction ring generalizing i with
  | nil => simp at h
  | cons a ring ih =>
    cases i with
    | zero => simp; omega
    | succ i =>
      have hi : i < ring.length := by simpa using h
      have hle : ring.getD i 0 ≤ ring.sum := by
        rw [List.getD_eq_getElem _ _ hi]
        exact List.le_sum_of_mem (List.getElem_mem hi)
      have hih := ih hi
      simp only [List.set_cons_succ, List.sum_cons, List.getD_cons_succ, hih]
      omega

theorem le_ringMax {ring : List Nat} {v : Nat} (h : v ∈ ring) : v ≤ ringMax ring := by
  induction ring with
  | nil => simp at h
  | cons a ring ih =>
    rcases List.mem_cons.mp h with rfl | h'
    · exact le_max_left _ _
    · exact le_trans (ih h') (le_max_right _ _)

theorem ringMax_le {ring : List Nat} {m : Nat} (h : ∀ v ∈ ring, v ≤ m) : ringMax ring ≤ m := by
  induction ring with
  | nil => exact Nat.zero_le _
  | cons a ring ih =>
    exact max_le (h a (by simp)) (ih fun v hv => h v (List.mem_cons_of_mem _ hv))

theorem ringMax_mem {ring : List Nat} (h : ring ≠ []) : ringMax ring ∈ ring := by
  induction ring with
  | nil => exact absurd rfl h
  | cons a ring ih =>
    rcases eq_or_ne ring [] with rfl | hr
    · simp [ringMax]
    · have hm := ih hr
      rcases max_choice a (ringMax ring) with hmax | hmax
      · exact List.mem_cons.mpr (.inl hmax)
      · exact List.mem_cons.mpr (.inr (by rw [show ringMax (a :: ring) = ringMax ring from hmax]; exact hm))

@[simp] theorem ringMax_replicate_zero (n : Nat) : ringMax (List.replicate n 0) = 0 :=
  Nat.le_zero.mp (ringMax_le fun v hv => by rw [(List.mem_replicate.mp hv).2])

theorem mem_set_lt {ring : List Nat} {i a m : Nat} (hring : ∀ v ∈ ring, v < m) (ha : a < m) :
    ∀ v ∈ ring.set i a, v < m := fun v hv => by
  rcases List.mem_or_eq_of_mem_set hv with h | rfl
  · exact hring v h
  · exact ha

/-! ## The pushes: what they give in each of the two cases -/

theorem pushTiming_partial {x : Nat} {s : State} (h : s.cntT + 1 ≠ s.params.nb) :
    pushTiming x s = { s with accT := s.accT + x, cntT := s.cntT + 1 } := by
  simp [pushTiming, batch_partial h]

theorem pushTiming_complete {x : Nat} {s : State} (h : s.cntT + 1 = s.params.nb) :
    pushTiming x s = { s with
      accT := 0, cntT := 0, ringT := s.ringT.set s.idxT ((s.accT + x) / s.params.nb)
      idxT := advance s.params.nr s.idxT
      tmax := ringMax (s.ringT.set s.idxT ((s.accT + x) / s.params.nb)) } := by
  simp [pushTiming, batch_complete h, insertTiming]

theorem pushFrequency_partial {x : Nat} {s : State} (h : s.cntF + 1 ≠ s.params.nb) :
    pushFrequency x s = { s with accF := s.accF + x, cntF := s.cntF + 1 } := by
  simp [pushFrequency, batch_partial h]

theorem pushFrequency_complete {x : Nat} {s : State} (h : s.cntF + 1 = s.params.nb) :
    pushFrequency x s = { s with
      accF := 0, cntF := 0, fsum := s.fsum - s.ringF.getD s.idxF 0 + (s.accF + x) / s.params.nb
      ringF := s.ringF.set s.idxF ((s.accF + x) / s.params.nb)
      idxF := advance s.params.nr s.idxF } := by
  simp [pushFrequency, batch_complete h, insertFrequency]

end Sys2Proof.Machine
end

