-- ==== Sys2Proof/Laws/Exec.lean ====
section
/-! SUPPORT. One inversion lemma per instruction: when it answers a next state, and which. -/

namespace Sys2Proof.Machine

variable {s t : State}

theorem exec_takeT_next : exec .takeT s = .next t ↔ s.halted = false ∧ takeTiming s = t := whileRunning_eq_next

theorem exec_takeF_next : exec .takeF s = .next t ↔ s.halted = false ∧ takeFrequency s = t := whileRunning_eq_next

theorem exec_tsmooth_next {x : Operand} : exec (.tsmooth x) s = .next t ↔
    x.toNat < 2 ^ s.params.dw ∧ s.halted = false ∧ returnMaximum (pushTiming x.toNat s) = t :=
  withSample_eq_next (f := fun v t => returnMaximum (pushTiming v t))

theorem exec_fsmooth_next {x : Operand} : exec (.fsmooth x) s = .next t ↔
    x.toNat < 2 ^ s.params.dw ∧ s.halted = false ∧ returnMean (pushFrequency x.toNat s) = t :=
  withSample_eq_next (f := fun v t => returnMean (pushFrequency v t))

theorem exec_setref_next {v : DacStep} : exec (.setref v) s = .next t ↔
    s.halted = false ∧ deliver .nothing { s with cmpref := v } = t := whileRunning_eq_next

theorem exec_raiseCoil_next : exec .raiseCoil s = .next t ↔ s.halted = false ∧ raise .coil s = t :=
  whileRunning_eq_next

theorem exec_raiseComp_next {l : Bool} : exec (.raiseComp l) s = .next t ↔
    s.halted = false ∧ { s with pend := s.pend.set (compLatch s l) .comp } = t := whileRunning_eq_next

theorem exec_raiseAudio_next : exec .raiseAudio s = .next t ↔ s.halted = false ∧ raise .audio s = t :=
  whileRunning_eq_next

theorem exec_raiseMillis_next : exec .raiseMillis s = .next t ↔ s.halted = false ∧ raise .millis s = t :=
  whileRunning_eq_next

theorem exec_raiseSerTx_next : exec .raiseSerTx s = .next t ↔ s.halted = false ∧ raise .serTx s = t :=
  whileRunning_eq_next

theorem exec_raiseSerRx_next : exec .raiseSerRx s = .next t ↔ s.halted = false ∧ raise .serRx s = t :=
  whileRunning_eq_next

theorem exec_raiseUnknown_next : exec .raiseUnknown s = .next t ↔ s.halted = false ∧ raise .unknown s = t :=
  whileRunning_eq_next

theorem exec_dispatch_next : exec .dispatch s = .next t ↔
    s.halted = false ∧ (if irq s then interruptRoutine s else s) = t := whileRunning_eq_next

theorem exec_decayTick_next {g : Bool} : exec (.decayTick g) s = .next t ↔
    s.halted = false ∧ (if decayCounts s g then countDecay s else s) = t := whileRunning_eq_next

theorem exec_reset_next : exec .reset s = .next t ↔ resetBlock s = t := by
  simp [exec, execReset]

/-- Everything a next state of one operation can be: a take, a push, a new reference, a raised flag, a latched
comparator edge, a dispatch, a timer count, or (halted or not) the reset state. -/
theorem exec_next_cases {i : Instr} (h : exec i s = .next t) :
    (i = .reset ∧ t = resetBlock s) ∨ s.halted = false ∧ (
      (i = .takeT ∧ t = takeTiming s) ∨ (i = .takeF ∧ t = takeFrequency s) ∨
      (∃ x, i = .tsmooth x ∧ x.toNat < 2 ^ s.params.dw ∧ t = returnMaximum (pushTiming x.toNat s)) ∨
      (∃ x, i = .fsmooth x ∧ x.toNat < 2 ^ s.params.dw ∧ t = returnMean (pushFrequency x.toNat s)) ∨
      (∃ v, i = .setref v ∧ t = deliver .nothing { s with cmpref := v }) ∨
      (∃ src, i ∈ [.raiseCoil, .raiseAudio, .raiseMillis, .raiseSerTx, .raiseSerRx, .raiseUnknown] ∧
        t = raise src s) ∨
      (∃ l, i = .raiseComp l ∧ t = { s with pend := s.pend.set (compLatch s l) .comp }) ∨
      (i = .dispatch ∧ t = (if irq s then interruptRoutine s else s)) ∨
      (∃ g, i = .decayTick g ∧ t = (if decayCounts s g then countDecay s else s))) := by
  cases i with
  | reset => exact .inl ⟨rfl, (exec_reset_next.mp h).symm⟩
  | takeT => obtain ⟨hr, ht⟩ := exec_takeT_next.mp h; exact .inr ⟨hr, by simp [ht]⟩
  | takeF => obtain ⟨hr, ht⟩ := exec_takeF_next.mp h; exact .inr ⟨hr, by simp [ht]⟩
  | tsmooth x => obtain ⟨hx, hr, ht⟩ := exec_tsmooth_next.mp h; exact .inr ⟨hr, by simp [ht, hx]⟩
  | fsmooth x => obtain ⟨hx, hr, ht⟩ := exec_fsmooth_next.mp h; exact .inr ⟨hr, by simp [ht, hx]⟩
  | setref v => obtain ⟨hr, ht⟩ := exec_setref_next.mp h; exact .inr ⟨hr, by simp [ht]⟩
  | raiseComp l => obtain ⟨hr, ht⟩ := exec_raiseComp_next.mp h; exact .inr ⟨hr, by simp [ht]⟩
  | dispatch => obtain ⟨hr, ht⟩ := exec_dispatch_next.mp h; exact .inr ⟨hr, by simp [ht]⟩
  | decayTick g => obtain ⟨hr, ht⟩ := exec_decayTick_next.mp h; exact .inr ⟨hr, by simp [ht]⟩
  | raiseCoil => obtain ⟨hr, ht⟩ := exec_raiseCoil_next.mp h; exact .inr ⟨hr, by simp [← ht]; exact ⟨_, rfl⟩⟩
  | raiseAudio => obtain ⟨hr, ht⟩ := exec_raiseAudio_next.mp h; exact .inr ⟨hr, by simp [← ht]; exact ⟨_, rfl⟩⟩
  | raiseMillis => obtain ⟨hr, ht⟩ := exec_raiseMillis_next.mp h; exact .inr ⟨hr, by simp [← ht]; exact ⟨_, rfl⟩⟩
  | raiseSerTx => obtain ⟨hr, ht⟩ := exec_raiseSerTx_next.mp h; exact .inr ⟨hr, by simp [← ht]; exact ⟨_, rfl⟩⟩
  | raiseSerRx => obtain ⟨hr, ht⟩ := exec_raiseSerRx_next.mp h; exact .inr ⟨hr, by simp [← ht]; exact ⟨_, rfl⟩⟩
  | raiseUnknown => obtain ⟨hr, ht⟩ := exec_raiseUnknown_next.mp h; exact .inr ⟨hr, by simp [← ht]; exact ⟨_, rfl⟩⟩

end Sys2Proof.Machine
end

