-- ==== Sys2Proof/Laws/Step.lean ====
section
/-! SUPPORT. What one step and one run can do, said once. -/

namespace Sys2Proof.Machine

open Sys2Proof.Safety

variable {s t : State}

/-- A step that answers a next state waits, or runs the next word's operation on the state without that word. -/
theorem step_next_cases (h : step s = .next t) :
    (s.ops = [] ∧ t = s) ∨
    ∃ w rest i, s.ops = w :: rest ∧ decode s.params w = .ok i ∧ exec i { s with ops := rest } = .next t := by
  unfold step at h
  split at h
  · rename_i ho
    cases h
    exact .inl ⟨ho, rfl⟩
  · rename_i w rest ho
    split at h
    · rename_i i hd
      exact .inr ⟨w, rest, i, ho, hd, h⟩
    · cases h

@[simp] theorem execAll_nil : execAll [] s = .next s := rfl

/-- A run of one operation and then others answers a next state when the operation does and the others do from
there. -/
theorem execAll_cons_next {i : Instr} {is : List Instr} :
    execAll (i :: is) s = .next t ↔ ∃ u, exec i s = .next u ∧ execAll is u = .next t := by
  cases h : exec i s <;> simp [execAll, h]

theorem execAll_append_next {is js : List Instr} :
    execAll (is ++ js) s = .next t ↔ ∃ u, execAll is s = .next u ∧ execAll js u = .next t := by
  induction is generalizing s with
  | nil => simp
  | cons i is ih => simp [execAll_cons_next, ih, ← exists_and_right, exists_comm (α := State), and_assoc]

end Sys2Proof.Machine
end

