-- ==== Sys2Proof/Laws/HostTable.lean ====
section
/-! SUPPORT. What one host step, one turn and one run of the host table can do, said once. -/

namespace Sys2Proof.Machine

variable {c d : HostContext} {s t : State} {us : List Turn}

/-- A host step that completes issued no command and left the block alone, or ran its command and read its result. -/
theorem hostTurn_next_cases {h : HostStep} (ht : hostTurn h c s = .next (d, t)) :
    (hostCommand c s.halted h = none ∧ d = hostInternal s.params c h ∧ t = s) ∨
    ∃ i, hostCommand c s.halted h = some i ∧ exec i s = .next t ∧ d = hostReceive t.res c h := by
  unfold hostTurn at ht
  split at ht
  · rename_i hn
    cases ht
    exact .inl ⟨hn, rfl, rfl⟩
  · rename_i i hi
    split at ht
    · rename_i u hu
      cases ht
      exact .inr ⟨i, hi, hu, rfl⟩
    · cases ht
    · cases ht

/-- An operation of the environment leaves what the host holds. -/
theorem takeTurn_event_next {i : Instr} :
    takeTurn (.event i) c s = .next (d, t) ↔ exec i s = .next t ∧ d = c := by
  cases h : exec i s <;> simp [takeTurn, h, and_comm, eq_comm]

@[simp] theorem takeTurn_host {h : HostStep} : takeTurn (.host h) c s = hostTurn h c s := rfl

@[simp] theorem hostRun_nil : hostRun [] c s = .next (c, s) := rfl

theorem hostRun_cons_next {u : Turn} :
    hostRun (u :: us) c s = .next (d, t) ↔
      ∃ c' s', takeTurn u c s = .next (c', s') ∧ hostRun us c' s' = .next (d, t) := by
  cases h : takeTurn u c s <;> simp [hostRun, h, Prod.ext_iff]

variable {α : Type} {note : Turn → HostContext → State → List α}

@[simp] theorem record_nil : record note [] c s = [] := rfl

theorem record_cons_of_next {u : Turn} (h : takeTurn u c s = .next (d, t)) :
    record note (u :: us) c s = note u c s ++ record note us d t := by
  simp [record, h]

/-! ### Which steps touch the samples still to use -/

theorem hostReceive_takeT_full {count edges : Nat} :
    hostReceive (.timing true count edges) c .h1 = c.takeTiming count := rfl

theorem hostReceive_takeT_empty {count edges : Nat} : hostReceive (.timing false count edges) c .h1 = c := rfl

theorem hostReceive_takeF_full {count : Nat} :
    hostReceive (.frequency true count) c .h4 = c.takeFrequency count := rfl

theorem hostReceive_takeF_empty {count : Nat} : hostReceive (.frequency false count) c .h4 = c := rfl

@[simp] theorem HostContext.takeTiming_timingToPush (n : Nat) :
    (c.takeTiming n).timingToPush = c.timingToPush ++ [n] := rfl

@[simp] theorem HostContext.takeTiming_timingToTest (n : Nat) :
    (c.takeTiming n).timingToTest = c.timingToTest ++ [n] := rfl

@[simp] theorem HostContext.takeTiming_frequencyToPush (n : Nat) :
    (c.takeTiming n).frequencyToPush = c.frequencyToPush := rfl

@[simp] theorem HostContext.takeTiming_soundOn (n : Nat) : (c.takeTiming n).soundOn = c.soundOn := rfl

@[simp] theorem HostContext.takeFrequency_timingToPush (n : Nat) :
    (c.takeFrequency n).timingToPush = c.timingToPush := by
  unfold HostContext.takeFrequency; split <;> rfl

@[simp] theorem HostContext.takeFrequency_timingToTest (n : Nat) :
    (c.takeFrequency n).timingToTest = c.timingToTest := by
  unfold HostContext.takeFrequency; split <;> rfl

@[simp] theorem HostContext.takeFrequency_frequencyToPush (n : Nat) :
    (c.takeFrequency n).frequencyToPush = c.frequencyToPush ++ (if c.soundOn then [] else [n]) := by
  unfold HostContext.takeFrequency; split <;> simp_all

/-- The host's own part of a step leaves the samples still to push. -/
theorem hostInternal_toPush {p : Params} {h : HostStep} :
    (hostInternal p c h).timingToPush = c.timingToPush ∧
    (hostInternal p c h).frequencyToPush = c.frequencyToPush := by
  cases h with
  | h3 => cases ht : c.timingToTest <;> simp [hostInternal, ht]
  | _ => exact ⟨rfl, rfl⟩

end Sys2Proof.Machine
end

