-- ==== Sys2Proof/Laws/PerInstr.lean ====
section
/-! SUPPORT. Statements made per instruction, about the instruction as text: where its fields stand in its word. -/

namespace Sys2Proof.Laws.EncodedFields

open Sys2Proof

/-- An instruction's word holds its operation code in `w[31:24]` and its operand in `w[23:0]` (30_encoding.md R70). -/
def Statement (i : Instr) : Prop := opField (encode i) = i.opCode ∧ operandField (encode i) = i.operand

theorem takeT : Statement .takeT := ⟨opField_encode _, operandField_encode _⟩

theorem takeF : Statement .takeF := ⟨opField_encode _, operandField_encode _⟩

theorem tsmooth (x : Operand) : Statement (.tsmooth x) := ⟨opField_encode _, operandField_encode _⟩

theorem fsmooth (x : Operand) : Statement (.fsmooth x) := ⟨opField_encode _, operandField_encode _⟩

theorem setref (v : DacStep) : Statement (.setref v) := ⟨opField_encode _, operandField_encode _⟩

theorem raiseCoil : Statement .raiseCoil := ⟨opField_encode _, operandField_encode _⟩

theorem raiseComp (l : Bool) : Statement (.raiseComp l) := ⟨opField_encode _, operandField_encode _⟩

theorem raiseAudio : Statement .raiseAudio := ⟨opField_encode _, operandField_encode _⟩

theorem raiseMillis : Statement .raiseMillis := ⟨opField_encode _, operandField_encode _⟩

theorem raiseSerTx : Statement .raiseSerTx := ⟨opField_encode _, operandField_encode _⟩

theorem raiseSerRx : Statement .raiseSerRx := ⟨opField_encode _, operandField_encode _⟩

theorem raiseUnknown : Statement .raiseUnknown := ⟨opField_encode _, operandField_encode _⟩

theorem dispatch : Statement .dispatch := ⟨opField_encode _, operandField_encode _⟩

theorem decayTick (g : Bool) : Statement (.decayTick g) := ⟨opField_encode _, operandField_encode _⟩

theorem reset : Statement .reset := ⟨opField_encode _, operandField_encode _⟩

end Sys2Proof.Laws.EncodedFields
end

