-- ==== Sys2Proof/Tests/Slice0.lean ====
section
/-! SUPPORT. Tests of the model against words and vectors written out in the spec (95_test_vectors.md, and the examples
and word encodings of the rules), and a witness for the hypotheses of each statement. -/

namespace Sys2Proof.Tests

open Sys2Proof Sys2Proof.Machine Sys2Proof.Safety

/-- What `f` reads in the state an outcome goes on to; `none` where it stops. -/
def after {α : Type} (o : Out) (f : State → α) : Option α :=
  match o with
  | .next t => some (f t)
  | .fault _ => none
  | .refused _ => none

/-- The name of a stop, if the outcome is one. -/
def stopOf (o : Out) : Option (Fault ⊕ Refusal) :=
  match o with
  | .next _ => none
  | .fault f => some (.inl f)
  | .refused r => some (.inr r)

/-- The vectors' parameters with `DW = 24`. -/
def wide : Params := { Params.default with dw := 24, dw_pos := by decide, dw_le := by decide }

/-- The vectors' parameters with `CMP_CHECK_USES_ENABLE = false`. -/
def unchecked : Params := { Params.default with cmpCheckUsesEnable := false }

/-- The vectors' parameters with `EDGE_TEST_BEFORE_INC = true`. -/
def testFirst : Params := { Params.default with edgeTestBeforeInc := true }

/-- Two slots and two samples a batch: a small block. -/
def small : Params := { Params.default with nr := 2, nb := 2, nr_pos := by decide, nb_pos := by decide }

/-- `R0` of the vectors. -/
def R0 : State := .reset

/-- The halted block. -/
def stuck : State := { R0 with halted := true, faultSeen := true }

/-- "SP", the pause start state of 95_test_vectors.md section 2.3. -/
def SP : State := { R0 with cie := true, dtOn := true }

/-- SP with a comparator edge pending. -/
def edgePending : State := { SP with pend := { Pending.clear with comp := true } }

/-- SP with a coil expiration pending. -/
def coilPending : State := { SP with pend := { Pending.clear with coil := true } }

/-- A pulse with a coil expiration pending (T41.4). -/
def pulseCoilPending : State :=
  { R0 with phase := .pulse, coil := true, pcnt := 20, driveCfg := .cfgPulse,
            pend := { Pending.clear with coil := true } }

/-- Both mailboxes full. -/
def full : State := { R0 with tReady := true, tCount := 9, tEdges := 20, fReady := true, fCount := 12 }

/-! ## Well-formedness and decoding (30_encoding.md R71, R73, R77; 95_test_vectors.md 2.1) -/

theorem test_wide_tsmooth_ill_formed : Instr.wellFormed .default (.tsmooth 0x010000#24) = false := by decide
theorem test_wide_fsmooth_ill_formed : Instr.wellFormed .default (.fsmooth 0x010000#24) = false := by decide
theorem test_largest_sample_well_formed : Instr.wellFormed .default (.tsmooth 0x00FFFF#24) = true := by decide

theorem test_decode_takeT : decodeTableWord 32 0x01000000 = some .takeT := by decide
theorem test_decode_takeT_bit : decodeTableWord 32 0x01000001 = none := by decide
theorem test_decode_takeF : decodeTableWord 32 0x02000000 = some .takeF := by decide
theorem test_decode_tsmooth : decodeTableWord 32 0x03001234 = some (.tsmooth 0x1234#24) := by decide
theorem test_decode_tsmooth_too_wide : decodeTableWord 32 0x03010000 = none := by decide
theorem test_decode_tsmooth_DW24 : decode wide 0x03010000#32 = .ok (.tsmooth 65536#24) := by decide
theorem test_decode_fsmooth : decodeTableWord 32 0x04000140 = some (.fsmooth 320#24) := by decide
theorem test_decode_setref : decodeTableWord 32 0x0500001F = some (.setref 31#5) := by decide
theorem test_decode_setref_32 : decodeTableWord 32 0x05000020 = none := by decide
theorem test_decode_raiseCoil : decodeTableWord 32 0x10000000 = some .raiseCoil := by decide
theorem test_decode_raiseComp_0 : decodeTableWord 32 0x11000000 = some (.raiseComp false) := by decide
theorem test_decode_raiseComp_1 : decodeTableWord 32 0x11000001 = some (.raiseComp true) := by decide
theorem test_decode_raiseComp_2 : decodeTableWord 32 0x11000002 = none := by decide
theorem test_decode_raiseAudio : decodeTableWord 32 0x12000000 = some .raiseAudio := by decide
theorem test_decode_raiseMillis : decodeTableWord 32 0x13000000 = some .raiseMillis := by decide
theorem test_decode_raiseSerTx : decodeTableWord 32 0x14000000 = some .raiseSerTx := by decide
theorem test_decode_raiseSerRx : decodeTableWord 32 0x15000000 = some .raiseSerRx := by decide
theorem test_decode_raiseUnknown : decodeTableWord 32 0x16000000 = some .raiseUnknown := by decide
theorem test_decode_dispatch : decodeTableWord 32 0x20000000 = some .dispatch := by decide
theorem test_decode_dispatch_bit : decodeTableWord 32 0x20000001 = none := by decide
theorem test_decode_decayTick : decodeTableWord 32 0x30000001 = some (.decayTick true) := by decide
theorem test_decode_reset : decodeTableWord 32 0xFF000000 = some .reset := by decide
theorem test_decode_unlisted : ∀ w ∈ [0x00000000, 0x06000000, 0x17000000, 0x21000000, 0x31000000, 0xFE000000],
    decodeTableWord 32 w = none := by decide

/-- The mask of the X form at `DW = 16` is the table's. -/
theorem test_maskX : maskX .default = 0xFFFF0000#32 := by decide

/-! ## Every word of the table runs as the first operation after reset -/

theorem test_first_step : ∀ w ∈ [0x01000000, 0x02000000, 0x03000000, 0x04000000, 0x05000000, 0x10000000, 0x11000000,
    0x12000000, 0x13000000, 0x14000000, 0x15000000, 0x16000000, 0x20000000, 0x30000000, 0xFF000000],
    after (step (State.reset.withFetchWord 32 w)) (·.ops) = some [] := by decide
theorem test_step_refuses : stopOf (step (State.reset.withFetchWord 32 0x05000020))
    = some (.inr .invalidOperationWord) := by decide

/-! ## Host commands (95_test_vectors.md 2.4, 2.5) -/

/-- T44.2: the sample is delivered and kept. -/
theorem test_takeT_full : after (exec .takeT full) (fun t => (t.res, t.tReady, t.tCount, t.tEdges))
    = some (.timing true 9 20, false, 9, 20) := by decide
/-- T44.1. -/
theorem test_takeT_empty : after (exec .takeT R0) (·.res) = some (.timing false 0 0) := by decide
/-- T44.3. -/
theorem test_takeF_full : after (exec .takeF full) (fun t => (t.res, t.fReady, t.fCount, t.tReady))
    = some (.frequency true 12, false, 12, true) := by decide
/-- T44.6. -/
theorem test_takeF_empty : after (exec .takeF { R0 with tReady := true, tCount := 9 }) (fun t => (t.res, t.tReady))
    = some (.frequency false 0, true) := by decide
/-- T44.4. -/
theorem test_setref : after (exec (.setref 31#5) full) (fun t => (t.cmpref, t.res)) = some (31#5, .nothing) := by decide
/-- T43.2, push 64: the exact sum of 64 largest samples. -/
theorem test_tsmooth_completes : after (exec (.tsmooth 65535#24) { R0 with accT := 4128705, cntT := 63 })
    (fun t => (t.res, t.ringT.head?, t.idxT, t.accT, t.cntT)) = some (.value 65535, some 65535, 1, 0, 0) := by decide
/-- T43.5, the 33rd batch: slot 0 is overwritten and the old maximum expires. -/
theorem test_tsmooth_maximum_expires :
    after (exec (.tsmooth 5#24) { R0 with ringT := 100 :: List.replicate 31 5, tmax := 100, accT := 315, cntT := 63 })
      (fun t => (t.res, t.idxT)) = some (.value 5, 1) := by decide
/-- T43.9, the completing push: `10240 - 320 + 0 = 9920`, mean 310. -/
theorem test_fsmooth_running_sum :
    after (exec (.fsmooth 0#24) { R0 with ringF := List.replicate 32 320, fsum := 10240, cntF := 63 })
      (fun t => (t.res, t.fsum, t.ringF.head?, t.idxF)) = some (.value 310, 9920, some 0, 1) := by decide
/-- T43.12: between batch boundaries the result stands; and the wrap of the index at slot 31. -/
theorem test_fsmooth_index_wraps :
    after (exec (.fsmooth 320#24) { R0 with accF := 20160, cntF := 63, idxF := 31 })
      (fun t => (t.res, t.idxF, t.fsum)) = some (.value 10, 0, 320) := by decide

/-! ## Events (95_test_vectors.md 2.3, 2.6) -/

theorem test_raiseCoil : after (exec .raiseCoil R0) (·.pend) = some { Pending.clear with coil := true } := by decide
theorem test_raiseAudio : after (exec .raiseAudio R0) (·.pend) = some { Pending.clear with audio := true } := by decide
theorem test_raiseMillis : after (exec .raiseMillis R0) (·.pend) = some { Pending.clear with millis := true } := by decide
theorem test_raiseSerTx : after (exec .raiseSerTx R0) (·.pend) = some { Pending.clear with serTx := true } := by decide
theorem test_raiseSerRx : after (exec .raiseSerRx R0) (·.pend) = some { Pending.clear with serRx := true } := by decide
theorem test_raiseUnknown : after (exec .raiseUnknown R0) (·.pend) = some { Pending.clear with unknown := true } := by
  decide
/-- T45.9: an enabled edge always latches. -/
theorem test_raiseComp_enabled : after (exec (.raiseComp false) SP) (·.pend.comp) = some true := by decide
/-- R181's example: a masked edge with `l = 0` is lost. -/
theorem test_raiseComp_masked : after (exec (.raiseComp false) R0) (·.pend.comp) = some false := by decide
/-- T42.13: the count wraps at `2^16`. -/
theorem test_decayTick_wraps : after (exec (.decayTick false) { R0 with dtOn := true, dtCount := 0xFFFF }) (·.dtCount)
    = some 0 := by decide
/-- T42.12, first tick: gated and closed. -/
theorem test_decayTick_gate_closed :
    after (exec (.decayTick false) { R0 with dtOn := true, dtGate := true, dtCount := 9 }) (·.dtCount) = some 9 := by
  decide

/-! ## Dispatch (95_test_vectors.md 2.2, 2.3, 2.6) -/

/-- The four services with an effect: T41.5 (the gate was armed but the pause ended before `EDGE_CAP`), T41.4, T42.2
(the nineteenth edge arms without stopping the timer) and T42.3 (the twentieth captures and masks). -/
theorem test_dispatch_services :
    after (exec .dispatch { coilPending with dtGate := true, dtCount := 700, pcnt := 19 })
      (fun t => ((t.phase, t.tCount, t.tEdges, t.tReady), (t.dtOn, t.dtGate, t.dtCount), (t.cie, t.coil)))
    = some ((.pulse, 700, 19, true), (false, false, 0), (false, true)) ∧
    after (exec .dispatch pulseCoilPending) (fun t => ((t.phase, t.coil, t.cie), (t.dtOn, t.pcnt, t.driveCfg)))
    = some ((.pause, false, true), (true, 0, .cfgPause)) ∧
    after (exec .dispatch { edgePending with pcnt := 18, dtCount := 500 })
      (fun t => (t.pcnt, t.dtGate, t.dtCount, t.dtOn)) = some (19, true, 500, true) ∧
    after (exec .dispatch { edgePending with pcnt := 19, dtGate := true, dtCount := 812 })
      (fun t => ((t.pcnt, t.fCount, t.fReady, t.dtCount), (t.dtGate, t.dtOn, t.dtPresc, t.cie)))
    = some ((20, 812, true, 0), (false, true, .prescFull, false)) :=
  ⟨by decide, by decide, by decide, by decide⟩

/-- The parameters and the fatal fallback: T42.7 second edge (the count tested first, 19 arms at the twentieth edge),
T42.9 (PeriodCounter wraps and 0 is a no-op), T45.7 with `CMP_CHECK_USES_ENABLE` true (fatal, the stale edge stays)
and false (the stale edge is served). -/
theorem test_dispatch_parameters_and_fatal :
    after (exec .dispatch { edgePending with params := testFirst, pcnt := 19 }) (fun t => (t.pcnt, t.dtGate))
    = some (20, true) ∧
    after (exec .dispatch { edgePending with pcnt := 255 }) (fun t => (t.pcnt, t.dtGate, t.cie))
    = some (0, false, true) ∧
    after (exec .dispatch { R0 with pend := { Pending.clear with comp := true, unknown := true } })
      (fun t => (t.halted, t.faultSeen, t.pend.comp, t.pend.unknown)) = some (true, true, true, true) ∧
    after (exec .dispatch { R0 with params := unchecked, pend := { Pending.clear with comp := true, unknown := true } })
      (fun t => (t.halted, t.pcnt, t.pend.comp, t.pend.unknown)) = some (false, 1, false, true) :=
  ⟨by decide, by decide, by decide, by decide⟩

/-! ## Reset and the halt (95_test_vectors.md 2.7, P5) -/

/-- T70.1. -/
theorem test_reset :
    after (exec .reset { full with halted := true, faultSeen := true, ringT := [0, 0, 0, 77],
                                   pend := { Pending.clear with unknown := true } })
      (fun t => (t.halted, t.faultSeen, t.tReady, t.ringT, t.pend)) =
    some (false, true, false, List.replicate 32 0, Pending.clear) := by decide
/-- As P5 step 6: a host command while halted. -/
theorem test_halted_setref : stopOf (exec (.setref 7#5) stuck) = some (.inl .halted) := by decide

/-! ## Assembler (95_test_vectors.md P1 steps 1, 2, 7; T44.5) -/

theorem test_assemble : assemble .default ["coil ; expire", "take.t", ".rep 2", "  ticks 2, 0", ".endr", "setref 0x1F"] =
    some [0x10000000#32, 0x20000000#32, 0x01000000#32, 0x30000000#32, 0x30000000#32, 0x30000000#32, 0x30000000#32,
          0x0500001F#32] := by decide
theorem test_assemble_refuses : assemble .default ["setref 32"] = none := by decide

/-! ## Host table (44_host_commands.md R166) -/

/-- The host with one timing sample to push and test, one frequency sample to push, and SoundOn as given. -/
def holding (on : Bool) : HostContext := ⟨on, [7], [7], 10, [5], 0⟩

/-- `7 + 2 < 10`, but not `8 + 2 < 10`. -/
theorem test_host_detects : detects { Params.default with margin := 2 } (holding false) 7 = true ∧
    detects { Params.default with margin := 2 } (holding false) 8 = false := by decide
theorem test_host_silent : hostCommand (holding true) false .h5 = none ∧
    hostCommand (holding false) false .h5 = some (.fsmooth 5#24) := by decide

/-- What the host holds after a run. -/
def held (us : List Turn) (c : HostContext) (s : State) : Option (List Nat × List Nat) :=
  match hostRun us c s with
  | .next (d, _) => some (d.timingToPush, d.frequencyToPush)
  | .fault _ => none
  | .refused _ => none

/-- R149: one take and two H2 push the sample once; a frequency sample taken while sounding is never to be pushed. -/
theorem test_host_uses_a_sample_once :
    record timingPushed [.host .h1, .host .h2, .host .h2] ⟨false, [], [], 0, [], 0⟩ full = [9#24] ∧
    held [.host .h1, .host (.sound true), .host .h4, .host (.sound false), .host .h5] ⟨false, [], [], 0, [], 0⟩ full
      = some ([9], []) := by decide

/-! ## Witnesses: states and operands that meet the hypotheses of each statement -/

theorem witness_DecodeOfEncodeIsIdentity : Instr.wellFormed .default (.tsmooth 0x00FFFF#24) = true ∧
    Instr.wellFormed wide (.fsmooth 0xFFFFFF#24) = true := by decide

theorem witness_EncodeOfDecodeIsIdentity : decode .default 0x0300FFFF#32 = .ok (.tsmooth 0x00FFFF#24) ∧
    decode .default 0x0500001F#32 = .ok (.setref 31#5) := by decide

/-- Each form at its largest operand, and a word each form refuses next to it. -/
theorem witness_ValidWordsAreTheListedOnesAndOthersAreRefused :
    decode .default 0x20000000#32 = .ok .dispatch ∧ decode .default 0x0400FFFF#32 = .ok (.fsmooth 0x00FFFF#24) ∧
    decode .default 0x0500001F#32 = .ok (.setref 31#5) ∧ decode .default 0x30000001#32 = .ok (.decayTick true) ∧
    (∃ s : State, s.params = .default ∧ s.ops = [0x20000001#32] ∧ ∀ i, decode .default 0x20000001#32 ≠ .ok i) ∧
    (∃ s : State, s.params = .default ∧ s.ops = [0x04010000#32] ∧ ∀ i, decode .default 0x04010000#32 ≠ .ok i) ∧
    (∃ s : State, s.params = .default ∧ s.ops = [0x05000020#32] ∧ ∀ i, decode .default 0x05000020#32 ≠ .ok i) ∧
    (∃ s : State, s.params = .default ∧ s.ops = [0x30000002#32] ∧ ∀ i, decode .default 0x30000002#32 ≠ .ok i) :=
  ⟨by decide, by decide, by decide, by decide,
    ⟨{ R0 with ops := [0x20000001#32] }, rfl, rfl, fun _ h => nomatch h⟩,
    ⟨{ R0 with ops := [0x04010000#32] }, rfl, rfl, fun _ h => nomatch h⟩,
    ⟨{ R0 with ops := [0x05000020#32] }, rfl, rfl, fun _ h => nomatch h⟩,
    ⟨{ R0 with ops := [0x30000002#32] }, rfl, rfl, fun _ h => nomatch h⟩⟩

theorem witness_TableRowsDoNotOverlap : ∃ r ∈ opcodeRows .default, 0x0300FFFF#32 &&& r.mask = r.pattern :=
  ⟨⟨maskX .default, 0x03000000#32⟩, by decide, by decide⟩

theorem witness_StepRunsTheNextDecodedOperation :
    ∃ s : State, s.ops = 0x30000001#32 :: [0x20000000#32] ∧ decode s.params 0x30000001#32 = .ok (.decayTick true) :=
  ⟨{ R0 with ops := [0x30000001#32, 0x20000000#32] }, rfl, by decide⟩

theorem witness_StepWaitsWithNoOperation : R0.ops = [] := rfl

theorem witness_NoOperationWritesParametersOrStream :
    (∃ t, exec (.setref 3#5) R0 = .next t) ∧
    (∃ t, exec .dispatch coilPending = .next t ∧ Instr.dispatch.issuer = .environment ∧ Instr.dispatch ≠ .reset) :=
  ⟨⟨_, rfl⟩, _, rfl, rfl, by decide⟩

theorem witness_TakeTDeliversTheTimingMailbox :
    full.halted = false ∧ full.tReady = true ∧ R0.halted = false ∧ R0.tReady = false := by decide

theorem witness_TakeFDeliversTheFrequencyMailbox :
    full.halted = false ∧ full.fReady = true ∧ R0.halted = false ∧ R0.fReady = false := by decide

theorem witness_SetrefWritesTheReference : R0.halted = false ∧
    0x05000000 + 32 ≤ (0x05000020#32).toNat ∧ (0x05FFFFFF#32).toNat < 0x06000000 := by decide

/-- A batch that goes on and one that completes at the last slot, each with the largest sample. -/
theorem witness_TsmoothPushesIntoTheMaxFilter :
    (R0.halted = false ∧ (0x00FFFF#24).toNat < 2 ^ R0.params.dw ∧ R0.cntT + 1 ≠ R0.params.nb) ∧
    ∃ s : State, s.halted = false ∧ (0x00FFFF#24).toNat < 2 ^ s.params.dw ∧ s.cntT + 1 = s.params.nb ∧
      s.idxT + 1 ≥ s.params.nr :=
  ⟨by decide, { R0 with cntT := 63, idxT := 31 }, by decide⟩

theorem witness_FsmoothPushesIntoTheMeanFilter :
    (R0.halted = false ∧ (0x00FFFF#24).toNat < 2 ^ R0.params.dw ∧ R0.cntF + 1 ≠ R0.params.nb) ∧
    ∃ s : State, s.halted = false ∧ (0x00FFFF#24).toNat < 2 ^ s.params.dw ∧ s.cntF + 1 = s.params.nb ∧
      s.idxF + 1 ≥ s.params.nr :=
  ⟨by decide, { R0 with cntF := 63, idxF := 31 }, by decide⟩

theorem witness_SamplesWiderThanDWAreRefused : 2 ^ R0.params.dw ≤ (0x010000#24).toNat := by decide

theorem witness_RaiseSetsOnlyItsPendingFlag : R0.halted = false ∧ coilPending.halted = false := by decide

theorem witness_RaiseCompLatchesByEnableOrChoice :
    (SP.halted = false ∧ SP.cie = true) ∧ (R0.halted = false ∧ R0.cie = false) := by decide

theorem witness_DecayTickCountsWhenOnAndOpen : (SP.halted = false ∧ SP.dtOn = true ∧ SP.dtGate = false) ∧
    (R0.halted = false ∧ R0.dtOn = false) := by decide

theorem witness_DispatchServesTheFirstPassingCheck :
    (R0.halted = false ∧ irq R0 = false) ∧ (edgePending.halted = false ∧ irq edgePending = true) ∧
    irq { R0 with pend := { Pending.clear with serRx := true } } = true ∧
    irq { R0 with pend := { Pending.clear with comp := true } } = false := by decide

theorem witness_CoilServiceTogglesThePhase :
    (coilPending.halted = false ∧ coilPending.pend.coil = true ∧ coilPending.phase = .pause) ∧
    (pulseCoilPending.halted = false ∧ pulseCoilPending.pend.coil = true ∧ pulseCoilPending.phase = .pulse) := by decide

theorem witness_CoilServiceInPauseEntersThePulse :
    coilPending.halted = false ∧ coilPending.pend.coil = true ∧ coilPending.phase = .pause ∧
    coilPending.tReady = false ∧ { coilPending with tReady := true }.phase = .pause := by decide

theorem witness_CoilServiceInPulseEntersThePause :
    pulseCoilPending.halted = false ∧ pulseCoilPending.pend.coil = true ∧ pulseCoilPending.phase = .pulse := by decide

/-- The hypotheses with the comparator enabled and, under the other reading, masked beside another request; and the
compared count at 18 + 1, 19 + 1 and neither. -/
theorem witness_EdgeServiceCountsArmsAndCaptures :
    (edgePending.halted = false ∧ irq edgePending = true ∧ edgePending.pend.coil = false ∧
      edgePending.pend.comp = true ∧ edgePending.cie = true) ∧
    (∃ s : State, s.halted = false ∧ irq s = true ∧ s.pend.coil = false ∧ s.pend.comp = true ∧ s.cie = false ∧
      s.params.cmpCheckUsesEnable = false) ∧
    (18 + 1) % 2 ^ edgePending.params.pcw = edgePending.params.edgeArm ∧
    (19 + 1) % 2 ^ edgePending.params.pcw = edgePending.params.edgeCap ∧
    (255 + 1) % 2 ^ edgePending.params.pcw = 0 :=
  ⟨by decide, ⟨{ R0 with params := unchecked, pend := { Pending.clear with comp := true, audio := true } }, by decide⟩,
    by decide, by decide, by decide⟩

theorem witness_FatalFallbackExactlyWhenOnlyUnknownRequests :
    ∃ s : State, s.halted = false ∧ s.pend.unknown = true ∧ s.pend.coil = false ∧ s.pend.audio = false ∧
      s.pend.millis = false ∧ s.pend.serTx = false ∧ s.pend.serRx = false ∧ s.pend.comp = true ∧ s.cie = false ∧
      s.params.cmpCheckUsesEnable = true :=
  ⟨{ R0 with pend := { Pending.clear with comp := true, unknown := true } }, by decide⟩

/-- The second clause: an unknown source beside a known one, beside an edge the check lets through, and no request. -/
theorem witness_FatalFallback_second_clause :
    (∃ s : State, s.halted = false ∧ s.pend.unknown = true ∧ s.pend.serRx = true) ∧
    (∃ s : State, s.halted = false ∧ s.pend.unknown = true ∧ s.pend.comp = true ∧ s.cie = false ∧
      s.params.cmpCheckUsesEnable = false) ∧
    (R0.halted = false ∧ R0.pend.unknown = false) :=
  ⟨⟨{ R0 with pend := { Pending.clear with unknown := true, serRx := true } }, by decide⟩,
    ⟨{ R0 with params := unchecked, pend := { Pending.clear with unknown := true, comp := true } }, by decide⟩,
    by decide⟩

theorem witness_DispatchClearsExactlyOneFlag :
    ∃ s : State, s.halted = false ∧ irq s = true ∧ selected s = some .serRx :=
  ⟨{ R0 with pend := { Pending.clear with comp := true, serRx := true, unknown := true } }, by decide⟩

theorem witness_SixDispatchesServeEveryKnownRequest :
    ∃ s : State, s.halted = false ∧ s.pend.unknown = false ∧ irq s = true :=
  ⟨{ SP with pend := ⟨true, true, true, true, true, true, false⟩ }, by decide⟩

theorem witness_OnlyDispatchRaisesTheOneException :
    (R0.halted = false ∧ Instr.wellFormed R0.params (.tsmooth 0x00FFFF#24) = true ∧
      decode R0.params 0x0300FFFF#32 = .ok (.tsmooth 0x00FFFF#24)) ∧
    ∃ s t : State, exec .dispatch s = .next t ∧ t.halted = true ∧ t.faultSeen = true ∧ s.faultSeen = false :=
  ⟨by decide, { R0 with pend := { Pending.clear with unknown := true } }, _, rfl, by decide⟩

theorem witness_HaltedBlocksEverythingButReset :
    stuck.halted = true ∧ Instr.dispatch ≠ .reset ∧ Instr.wellFormed stuck.params .dispatch = true := by decide

theorem witness_FaultSeenIsStickyAndHaltEndsOnlyByReset :
    (∃ t, exec .reset stuck = .next t ∧ stuck.faultSeen = true ∧ stuck.halted = true) ∧
    (∃ s t : State, exec .dispatch s = .next t ∧ s.halted = false ∧ t.halted = true) :=
  ⟨⟨_, rfl, by decide⟩, { R0 with pend := { Pending.clear with unknown := true } }, _, rfl, by decide⟩

/-- A state that meets the invariant with work in it: a pause with edges counted, samples in both batches and rings. -/
def busy : State :=
  { SP with params := small, dtCount := 5, pcnt := 7, ringT := [4, 3], idxT := 1, accT := 9, cntT := 1, tmax := 4,
            ringF := [6, 1], idxF := 1, accF := 2, cntF := 1, fsum := 7, ops := [0x03000003#32] }

theorem witness_EveryStepKeepsTheInvariant : BlockInv busy ∧ ∃ t, step busy = .next t := ⟨by decide, _, rfl⟩

theorem witness_EveryStepKeepsTheEdgeCountLimit :
    (∃ s t : State, s.params.cmpCheckUsesEnable = true ∧ 0 < s.params.edgeCap ∧ s.pcnt = 19 ∧ EdgeCountLimited s ∧
      step s = .next t) ∧
    ∃ s t : State, s.params.cmpCheckUsesEnable = true ∧ s.params.edgeTestBeforeInc = true ∧ s.pcnt = 20 ∧
      EdgeCountLimited s ∧ step s = .next t :=
  ⟨⟨{ edgePending with pcnt := 19, ops := [0x20000000#32] }, _, by decide, by decide, by decide, by decide, rfl⟩,
    { edgePending with params := testFirst, pcnt := 20, ops := [0x20000000#32] }, _, by decide, by decide, by decide,
      by decide, rfl⟩

theorem witness_LaunchStatesStayAdmittedUntilAFault :
    LaunchAdmitted busy ∧ ∃ t, step busy = .next t ∧ NoFault t := ⟨by decide, _, rfl, by decide⟩

theorem witness_CoilIsDrivenExactlyInThePulse : BlockInv busy ∧ ∃ t, step busy = .next t := ⟨by decide, _, rfl⟩

/-- A capture into a full mailbox, one into an empty one, and an operation that is no DISPATCH. -/
theorem witness_UnreadSamplesAreNeverOverwritten :
    (∃ s t : State, exec .dispatch s = .next t ∧ Instr.dispatch ≠ .reset ∧ Instr.dispatch ≠ .takeT ∧ s.tReady = true ∧
      s.fReady = true) ∧
    (∃ t, exec .dispatch coilPending = .next t ∧ coilPending.tReady = false ∧ t.tReady = true ∧ t.fReady = false) ∧
    (∃ t, exec .takeT full = .next t ∧ Instr.takeT ≠ .dispatch ∧ t.tReady = false) ∧
    ∃ s t : State, exec .dispatch s = .next t ∧ s.fReady = false ∧ t.fReady = true ∧ s.dtCount = 812 :=
  ⟨⟨{ coilPending with tReady := true, fReady := true }, _, rfl, by decide⟩, ⟨_, rfl, by decide⟩, ⟨_, rfl, by decide⟩,
    { edgePending with pcnt := 19, dtCount := 812 }, _, rfl, by decide⟩

theorem witness_DelayedTakeReadsThePublishedSample :
    ∃ t, execAll [.raiseCoil, .dispatch, .decayTick true] full = .next t ∧
      Instr.reset ∉ [.raiseCoil, .dispatch, .decayTick true] ∧ t.halted = false ∧ full.tReady = true ∧
      full.fReady = true ∧ Instr.takeT ∉ [.raiseCoil, .dispatch, .decayTick true] ∧
      Instr.takeF ∉ [.raiseCoil, .dispatch, .decayTick true] := ⟨_, rfl, by decide⟩

theorem witness_MaskedComparatorPublishesNoFrequencySample :
    (∃ t, exec .dispatch pulseCoilPending = .next t ∧ pulseCoilPending.params.cmpCheckUsesEnable = true ∧
      pulseCoilPending.cie = false ∧ t.cie = true) ∧
    ∃ t, exec (.raiseComp true) R0 = .next t ∧ R0.params.cmpCheckUsesEnable = true ∧ R0.cie = false ∧
      t.cie = false := ⟨⟨_, rfl, by decide⟩, _, rfl, by decide⟩

theorem witness_EachElementIsWrittenOnlyByItsOwners :
    (∃ t, exec (.decayTick true) SP = .next t ∧ Instr.decayTick true ≠ .reset ∧
      (Instr.decayTick true).issuer = .environment) ∧
    (∃ t, exec .takeT full = .next t ∧ Instr.takeT.issuer = .host ∧ (∀ g, Instr.takeT ≠ .decayTick g) ∧
      (∀ v, Instr.takeT ≠ .setref v) ∧ (∀ x, Instr.takeT ≠ .tsmooth x) ∧ (∀ x, Instr.takeT ≠ .fsmooth x) ∧
      Instr.takeT ≠ .takeF ∧ full.fReady = true) ∧
    (∃ t, exec .takeF full = .next t ∧ Instr.takeF ≠ .takeT ∧ full.tReady = true) ∧
    ∃ s t : State, exec .dispatch s = .next t ∧ t.pend.get .audio = true :=
  ⟨⟨_, rfl, by decide⟩, ⟨_, rfl, rfl, nofun, nofun, nofun, nofun, nofun, rfl⟩, ⟨_, rfl, by decide⟩,
    { coilPending with pend := { coilPending.pend with audio := true } }, _, rfl, by decide⟩

/-- Two states that differ in the other smoother and in a mailbox. -/
theorem witness_SmoothersShareNoState :
    (∃ s u t : State, exec (.tsmooth 3#24) s = .next t ∧ u.params = s.params ∧ u.halted = s.halted ∧
      u.ringT = s.ringT ∧ u.idxT = s.idxT ∧ u.accT = s.accT ∧ u.cntT = s.cntT ∧ u.tmax = s.tmax ∧ u.fsum ≠ s.fsum) ∧
    ∃ s u t : State, exec (.fsmooth 3#24) s = .next t ∧ u.params = s.params ∧ u.halted = s.halted ∧
      u.ringF = s.ringF ∧ u.idxF = s.idxF ∧ u.accF = s.accF ∧ u.cntF = s.cntF ∧ u.fsum = s.fsum ∧ u.tmax ≠ s.tmax :=
  ⟨⟨busy, { busy with fsum := 0, tReady := true }, _, rfl, rfl, rfl, rfl, rfl, rfl, rfl, rfl, by decide⟩,
    busy, { busy with tmax := 0, tReady := true }, _, rfl, rfl, rfl, rfl, rfl, rfl, rfl, rfl, by decide⟩

theorem witness_TsmoothReturnsTheMaximumOfTheSlots :
    BlockInv busy ∧ busy.halted = false ∧ (65535#24).toNat < 2 ^ busy.params.dw := by decide

theorem witness_LargestAverageBecomesTheMaximum :
    BlockInv busy ∧ busy.halted = false ∧ (0#24).toNat < 2 ^ busy.params.dw ∧ busy.cntT + 1 = busy.params.nb ∧
    busy.tmax ≤ (busy.accT + (0#24).toNat) / busy.params.nb := by decide

theorem witness_FsmoothReturnsTheMeanOfTheSlots :
    BlockInv busy ∧ busy.halted = false ∧ (65535#24).toNat < 2 ^ busy.params.dw := by decide

/-- Four pushes are a full wrap of a block of two slots and two samples a batch. -/
theorem witness_RingIndexWrapsAfterAllBatches :
    ∃ (xs : List Operand) (s : State), s.halted = false ∧ (∀ x ∈ xs, x.toNat < 2 ^ s.params.dw) ∧
      s.idxT < s.params.nr ∧ s.cntT < s.params.nb ∧ s.idxF < s.params.nr ∧ s.cntF < s.params.nb ∧ s.idxT = 0 ∧
      s.cntT = 0 ∧ s.idxF = 0 ∧ s.cntF = 0 ∧ xs.length = s.params.nr * s.params.nb :=
  ⟨[1#24, 9#24, 0#24, 7#24], .r0 small 0, rfl,
    fun x hx => by simp only [List.mem_cons, List.not_mem_nil, or_false] at hx; rcases hx with rfl | rfl | rfl | rfl <;> decide,
    by decide⟩

theorem witness_SmootherPushesCommuteWithEvents :
    (∃ t, execAll [.dispatch, .tsmooth 3#24] coilPending = .next t ∧ Instr.dispatch.issuer = .environment ∧
      Instr.dispatch ≠ .reset) ∧
    ∃ t, execAll [.dispatch, .fsmooth 3#24] coilPending = .next t := ⟨⟨_, rfl, by decide⟩, _, rfl⟩

theorem witness_HostStepsCompleteAndKeepTheInvariant :
    ∃ c : HostContext, BlockInv busy ∧ busy.halted = false ∧ c.timingToPush = [65535] ∧ c.timingToTest = [65535] ∧
      c.frequencyToPush = [65535] ∧ 65535 < 2 ^ busy.params.dw ∧ (65535#24).toNat < 2 ^ busy.params.dw :=
  ⟨⟨false, [65535], [65535], 0, [65535], 0⟩, by decide⟩

theorem witness_DetectionSetsSoundOnAndSilencesTheFrequencyPush :
    (holding true).timingToTest = 7 :: [] ∧ (holding true).soundOn = true ∧
    { holding true with timingToTest := [] }.timingToTest = [] := ⟨rfl, rfl, rfl⟩

theorem witness_AssembledWordsAreValid : assemble .default ["tick 1", "reset"] = some [0x30000001#32, 0xFF000000#32] := by
  decide

theorem witness_PseudoInstructionsExpandAsListed :
    number "5" = some 5 ∧ sampleOperand .default "0x64" = some 100#24 ∧ lineWords " .rep 5 ; five" = [".rep", "5"] ∧
    lineWords ".endr" = [".endr"] ∧ assembleLines .default [] [] ["dispatch"] = some [.dispatch] ∧
    assembleLines .default [] [] ["reset"] = some [.reset] := by decide

/-- A run that takes and pushes on both sides, with a pulse and an edge count between. -/
theorem witness_EachTakenSampleIsPushedOnce :
    (∃ d t, hostRun [.host .h1, .host .h4, .event .raiseCoil, .event .dispatch, .host .h2, .host .h5, .host .h1]
      ⟨false, [], [], 0, [], 0⟩ full = .next (d, t)) ∧
    (∀ i, Turn.event i ∈ [.host .h1, .event .raiseCoil, .event .dispatch] → i.issuer = .environment) := by
  refine ⟨⟨_, _, rfl⟩, fun i hi => ?_⟩
  simp only [List.mem_cons, reduceCtorEq, Turn.event.injEq, List.not_mem_nil, or_false, false_or] at hi
  rcases hi with rfl | rfl <;> rfl

theorem witness_HostLibertiesAreAlwaysOpen :
    (R0.halted = false ∧ (65535#24).toNat < 2 ^ R0.params.dw) ∧ stuck.halted = true ∧
    HostStep.h3 ≠ .resetAfterHalt ∧ hostTurn .h3 (holding false) stuck =
      .next ({ holding false with
        soundOn := decide (7 + stuck.params.margin < 10), timingToTest := [] }, stuck) :=
  ⟨by decide, rfl, by decide, rfl⟩

end Sys2Proof.Tests
end

section
/-! Proofs of the statements about the state (10_state.md): the two fault bits of R37, and the reset table of R41 at the
start of a run. -/

namespace Sys2Proof.Machine

/-! ## The fault bits -/

/-- `t` holds the fault bits `halted` and `fault_seen` of `s` (R37). -/
def SameFaultBits (s t : State) : Prop := t.halted = s.halted ∧ t.faultSeen = s.faultSeen

theorem takeTiming_sameFaultBits (s : State) : SameFaultBits s (takeTiming s) := by
  unfold takeTiming
  split <;> exact ⟨rfl, rfl⟩

theorem takeFrequency_sameFaultBits (s : State) : SameFaultBits s (takeFrequency s) := by
  unfold takeFrequency
  split <;> exact ⟨rfl, rfl⟩

theorem pushTiming_sameFaultBits (x : Nat) (s : State) : SameFaultBits s (pushTiming x s) := by
  by_cases h : s.cntT + 1 = s.params.nb
  · rw [pushTiming_complete h]; exact ⟨rfl, rfl⟩
  · rw [pushTiming_partial h]; exact ⟨rfl, rfl⟩

theorem pushFrequency_sameFaultBits (x : Nat) (s : State) : SameFaultBits s (pushFrequency x s) := by
  by_cases h : s.cntF + 1 = s.params.nb
  · rw [pushFrequency_complete h]; exact ⟨rfl, rfl⟩
  · rw [pushFrequency_partial h]; exact ⟨rfl, rfl⟩

theorem coilService_sameFaultBits (s : State) : SameFaultBits s (coilService s) := by
  cases h : s.phase with
  | pause => rw [coilService_pause h]; exact ⟨pulseActiveEntry_halted s, pulseActiveEntry_faultSeen s⟩
  | pulse => rw [coilService_pulse h]; exact ⟨rfl, rfl⟩

theorem edgeService_sameFaultBits (s : State) : SameFaultBits s (edgeService s) := by
  obtain ⟨-, h⟩ | ⟨-, -, h⟩ | ⟨-, -, h⟩ := edgeService_cases s
  · rw [h]; exact ⟨rfl, rfl⟩
  · rw [h]; exact ⟨captureFrequency_halted _, captureFrequency_faultSeen _⟩
  · rw [h]; exact ⟨rfl, rfl⟩

/-- The interrupt routine touches the fault bits only through its fatal fallback. -/
theorem interruptRoutine_faultBits (s : State) :
    SameFaultBits s (interruptRoutine s) ∨ interruptRoutine s = raiseFatalUnhandledInterrupt s := by
  obtain ⟨-, h⟩ | ⟨-, -, h⟩ | ⟨src, -, -, -, h⟩ | ⟨-, h⟩ := interruptRoutine_cases s
  · exact .inl (h ▸ coilService_sameFaultBits (acknowledge .coil s))
  · exact .inl (h ▸ edgeService_sameFaultBits (acknowledge .comp s))
  · exact .inl (h ▸ ⟨rfl, rfl⟩)
  · exact .inr h

/-- What one operation can do to the fault bits (R37): RESET clears `halted` alone; any other operation needs a running
block, and leaves both bits or is a DISPATCH that takes the fatal fallback. -/
theorem exec_faultBits_cases {i : Instr} {s t : State} (h : exec i s = .next t) :
    (i = .reset ∧ t = resetBlock s) ∨
    s.halted = false ∧ (SameFaultBits s t ∨ i = .dispatch ∧ t = raiseFatalUnhandledInterrupt s) := by
  obtain hreset | ⟨hrun, hcases⟩ := exec_next_cases h
  · exact .inl hreset
  refine .inr ⟨hrun, ?_⟩
  obtain ⟨-, rfl⟩ | ⟨-, rfl⟩ | ⟨x, -, -, rfl⟩ | ⟨x, -, -, rfl⟩ | ⟨v, -, rfl⟩ | ⟨src, -, rfl⟩ | ⟨l, -, rfl⟩ |
    ⟨hi, rfl⟩ | ⟨g, -, rfl⟩ := hcases
  · exact .inl (takeTiming_sameFaultBits s)
  · exact .inl (takeFrequency_sameFaultBits s)
  · exact .inl (pushTiming_sameFaultBits x.toNat s)
  · exact .inl (pushFrequency_sameFaultBits x.toNat s)
  · exact .inl ⟨rfl, rfl⟩
  · exact .inl ⟨rfl, rfl⟩
  · exact .inl ⟨rfl, rfl⟩
  · split
    · exact (interruptRoutine_faultBits s).imp_right (⟨hi, ·⟩)
    · exact .inl ⟨rfl, rfl⟩
  · split <;> exact .inl ⟨rfl, rfl⟩

/-- Settles O29: each clause is read off the three ways an operation can touch the fault bits. -/
theorem faultSeenIsStickyAndHaltEndsOnlyByReset : Obligations.FaultSeenIsStickyAndHaltEndsOnlyByReset := by
  refine ⟨fun i s t h => ?_, fun s => ⟨resetBlock s, rfl, rfl, rfl⟩, rfl, rfl⟩
  obtain ⟨hi, rfl⟩ | ⟨hrun, ⟨hhalt, hseen⟩ | ⟨-, rfl⟩⟩ := exec_faultBits_cases h
  · simp [hi]
  · simp [hrun, hhalt, hseen]
  · simp [hrun]

/-! ## The start of a run -/

@[simp] theorem Pending.clear_get (src : Source) : Pending.clear.get src = false := by
  cases src <;> rfl

/-- Settles O31: the start of a run is `R0` at the default parameters, so each element is read off `R0`'s laws. -/
theorem startOfRunHoldsTheResetValues : Obligations.StartOfRunHoldsTheResetValues := by
  simp [Obligations.StartOfRunHoldsTheResetValues, State.reset]

end Sys2Proof.Machine
end

section
/-! Proofs of the statements about the encoding (30_encoding.md): what the decoder accepts, as the operation's own code,
operand and well-formedness, and which words that leaves valid (R73). -/

namespace Sys2Proof

variable {p : Params} {w : OpWord} {a : Operand} {i : Instr}

/-! ## The fields of a word and the operands of the forms, as naturals -/

theorem opField_toNat (w : OpWord) : (opField w).toNat = w.toNat / 2 ^ 24 := by
  simp only [opField, BitVec.extractLsb'_toNat, Nat.shiftRight_eq_div_pow]
  omega

theorem operandField_toNat (w : OpWord) : (operandField w).toNat = w.toNat % 2 ^ 24 := by
  simp [operandField]

theorem operand_setref_toNat (v : DacStep) : (Instr.setref v).operand.toNat = v.toNat := by
  simp only [Instr.operand, BitVec.toNat_setWidth]
  omega

theorem operand_raiseComp_toNat (l : Bool) : (Instr.raiseComp l).operand.toNat = l.toNat := by
  cases l <;> rfl

theorem operand_decayTick_toNat (g : Bool) : (Instr.decayTick g).operand.toNat = g.toNat := by
  cases g <;> rfl

/-! ## What each operand form accepts (R71) -/

theorem guard_eq_ok {c : Prop} [Decidable c] {e : InvalidWord} {j : Instr} :
    (if c then .ok j else .error e) = Except.ok i ↔ c ∧ j = i := by
  simp [ite_eq_iff]

/-- The bits of an operand above its low `n` are 0 exactly when its value is below `2 ^ n`. -/
theorem extractLsb'_high_eq_zero {n m : Nat} (hnm : n + m = 24) : a.extractLsb' n m = 0 ↔ a.toNat < 2 ^ n := by
  have hquot : a.toNat / 2 ^ n < 2 ^ m := Nat.div_lt_of_lt_mul (by rw [← Nat.pow_add, hnm]; exact a.isLt)
  rw [← BitVec.toNat_inj, BitVec.extractLsb'_toNat, Nat.shiftRight_eq_div_pow, Nat.mod_eq_of_lt hquot]
  exact Nat.div_eq_zero_iff_lt (Nat.two_pow_pos n)

theorem formZ_eq_ok {j : Instr} : formZ a j = .ok i ↔ a = 0 ∧ j = i := guard_eq_ok

theorem formX_eq_ok {f : Operand → Instr} : formX p a f = .ok i ↔ a.toNat < 2 ^ p.dw ∧ f a = i := guard_eq_ok

theorem formV_eq_ok {f : DacStep → Instr} : formV a f = .ok i ↔ ∃ v : DacStep, a = v.setWidth 24 ∧ f v = i := by
  have hlow : (a.extractLsb' 0 5).toNat = a.toNat % 2 ^ 5 := by simp
  rw [formV, guard_eq_ok, extractLsb'_high_eq_zero rfl]
  constructor
  · rintro ⟨hlt, rfl⟩
    exact ⟨_, by bv_omega, rfl⟩
  · rintro ⟨v, rfl, rfl⟩
    exact ⟨by bv_omega, congrArg f (by bv_omega)⟩

theorem formB_eq_ok {f : Bool → Instr} :
    formB a f = .ok i ↔ ∃ b : Bool, a = (BitVec.ofBool b).setWidth 24 ∧ f b = i := by
  rw [formB, guard_eq_ok, extractLsb'_high_eq_zero rfl]
  constructor
  · rintro ⟨hlt, rfl⟩
    obtain rfl | rfl : a = 0 ∨ a = 1 := by bv_omega
    · exact ⟨false, rfl, rfl⟩
    · exact ⟨true, rfl, rfl⟩
  · rintro ⟨b, rfl, rfl⟩
    cases b <;> exact ⟨by decide, rfl⟩

/-! ## What the decoder accepts -/

/-- The decoder's arms, grouped by the operand form of their row: X, then V and B, then Z. -/
theorem decode_sound (h : decode p w = .ok i) :
    opField w = i.opCode ∧ operandField w = i.operand ∧ i.wellFormed p = true := by
  unfold decode at h
  split at h <;> rename_i hop <;>
    simp only [formZ_eq_ok, formX_eq_ok, formV_eq_ok, formB_eq_ok, reduceCtorEq] at h
  case h_3 | h_4 =>
    obtain ⟨hx, rfl⟩ := h
    exact ⟨hop, rfl, decide_eq_true hx⟩
  case h_5 | h_7 | h_14 =>
    obtain ⟨v, hv, rfl⟩ := h
    exact ⟨hop, hv, rfl⟩
  all_goals
    obtain ⟨ha, rfl⟩ := h
    exact ⟨hop, ha, rfl⟩

theorem decode_complete (hop : opField w = i.opCode) (ha : operandField w = i.operand)
    (hwf : i.wellFormed p = true) : decode p w = .ok i := by
  cases i <;> simp only [decode, hop, ha, Instr.opCode]
  case tsmooth | fsmooth => exact formX_eq_ok.mpr ⟨of_decide_eq_true hwf, rfl⟩
  case setref v => exact formV_eq_ok.mpr ⟨v, rfl, rfl⟩
  case raiseComp b | decayTick b => exact formB_eq_ok.mpr ⟨b, rfl, rfl⟩
  all_goals exact formZ_eq_ok.mpr ⟨rfl, rfl⟩

/-- The decoder answers an operation exactly for the word with its code and its operand, when it is one of the block's
operations (R73). -/
theorem decode_eq_ok_iff :
    decode p w = .ok i ↔ opField w = i.opCode ∧ operandField w = i.operand ∧ i.wellFormed p = true :=
  ⟨decode_sound, fun ⟨hop, ha, hwf⟩ => decode_complete hop ha hwf⟩

theorem decode_eq_ok_iff_toNat :
    decode p w = .ok i ↔
      i.opCode.toNat = w.toNat / 2 ^ 24 ∧ i.operand.toNat = w.toNat % 2 ^ 24 ∧ i.wellFormed p = true := by
  rw [decode_eq_ok_iff, ← opField_toNat, ← operandField_toNat, BitVec.toNat_inj, BitVec.toNat_inj, eq_comm,
    eq_comm (a := operandField w)]

/-! ## The valid fields (R72, R73) -/

/-- R72 and R73 as arithmetic: `c` is one of the fifteen codes, and the operand `a` has 0 in the bits the code's form
requires to be 0. -/
def ValidFields (p : Params) (c a : Nat) : Prop :=
  (c ∈ [0x01, 0x02, 0x10, 0x12, 0x13, 0x14, 0x15, 0x16, 0x20, 0xFF] ∧ a = 0) ∨
  (c ∈ [0x03, 0x04] ∧ a < 2 ^ p.dw) ∨
  (c = 0x05 ∧ a < 32) ∨
  (c ∈ [0x11, 0x30] ∧ a < 2)

theorem validFields_of_wellFormed (hwf : i.wellFormed p = true) : ValidFields p i.opCode.toNat i.operand.toNat := by
  cases i
  case tsmooth | fsmooth => exact .inr (.inl ⟨by simp [Instr.opCode], of_decide_eq_true hwf⟩)
  case setref v => exact .inr (.inr (.inl ⟨rfl, operand_setref_toNat v ▸ v.isLt⟩))
  case raiseComp l => exact .inr (.inr (.inr ⟨by simp [Instr.opCode], operand_raiseComp_toNat l ▸ l.toNat_lt⟩))
  case decayTick g => exact .inr (.inr (.inr ⟨by simp [Instr.opCode], operand_decayTick_toNat g ▸ g.toNat_lt⟩))
  all_goals exact .inl ⟨by decide, rfl⟩

theorem exists_instr_of_validFields {c a : Nat} (ha : a < 2 ^ 24) (h : ValidFields p c a) :
    ∃ i : Instr, i.opCode.toNat = c ∧ i.operand.toNat = a ∧ i.wellFormed p = true := by
  have hx : (BitVec.ofNat 24 a).toNat = a := Nat.mod_eq_of_lt ha
  simp only [ValidFields, List.mem_cons, List.not_mem_nil, or_false] at h
  obtain ⟨hc, rfl⟩ | ⟨rfl | rfl, hlt⟩ | ⟨rfl, hlt⟩ | ⟨rfl | rfl, hlt⟩ := h
  · obtain rfl | rfl | rfl | rfl | rfl | rfl | rfl | rfl | rfl | rfl := hc
    exacts [⟨.takeT, rfl, rfl, rfl⟩, ⟨.takeF, rfl, rfl, rfl⟩, ⟨.raiseCoil, rfl, rfl, rfl⟩,
      ⟨.raiseAudio, rfl, rfl, rfl⟩, ⟨.raiseMillis, rfl, rfl, rfl⟩, ⟨.raiseSerTx, rfl, rfl, rfl⟩,
      ⟨.raiseSerRx, rfl, rfl, rfl⟩, ⟨.raiseUnknown, rfl, rfl, rfl⟩, ⟨.dispatch, rfl, rfl, rfl⟩, ⟨.reset, rfl, rfl, rfl⟩]
  · exact ⟨.tsmooth (BitVec.ofNat 24 a), rfl, hx, decide_eq_true (hx.symm ▸ hlt)⟩
  · exact ⟨.fsmooth (BitVec.ofNat 24 a), rfl, hx, decide_eq_true (hx.symm ▸ hlt)⟩
  · exact ⟨.setref (BitVec.ofNat 5 a), rfl, (operand_setref_toNat _).trans (Nat.mod_eq_of_lt hlt), rfl⟩
  · exact ⟨.raiseComp (a == 1), rfl, by rw [operand_raiseComp_toNat]; interval_cases a <;> rfl, rfl⟩
  · exact ⟨.decayTick (a == 1), rfl, by rw [operand_decayTick_toNat]; interval_cases a <;> rfl, rfl⟩

theorem decode_accepts_iff : (∃ i, decode p w = .ok i) ↔ ValidFields p (w.toNat / 2 ^ 24) (w.toNat % 2 ^ 24) := by
  simp only [decode_eq_ok_iff_toNat]
  constructor
  · rintro ⟨i, hop, ha, hwf⟩
    exact hop ▸ ha ▸ validFields_of_wellFormed hwf
  · exact exists_instr_of_validFields (Nat.mod_lt _ (by decide))

/-! ## Refusal of an invalid word -/

open Sys2Proof.Machine in
theorem step_of_not_decodes {s : State} {rest : List OpWord} (hops : s.ops = w :: rest)
    (hinvalid : ∀ i, decode s.params w ≠ .ok i) : step s = .refused .invalidOperationWord := by
  cases hdec : decode s.params w with
  | ok i => exact absurd hdec (hinvalid i)
  | error e => simp [step, hops, hdec]

/-- Settles O3: a word decodes to the operation with its code and operand, and the operations' codes and operands are
the listed ones. -/
theorem validWordsAreTheListedOnesAndOthersAreRefused :
    Obligations.ValidWordsAreTheListedOnesAndOthersAreRefused := by
  intro p w
  refine ⟨decode_accepts_iff, fun i h => ?_, fun s rest hp hops hinvalid => ?_⟩
  · obtain ⟨hop, ha, -⟩ := decode_eq_ok_iff_toNat.mp h
    exact ⟨hop, ha⟩
  · subst hp
    exact step_of_not_decodes hops hinvalid

end Sys2Proof
end

section
/-! Proofs of the statements about the pulse/decay controller (41_pulse_decay.md): a DISPATCH with COIL pending is the
coil service (R100), and the two entry actions as record updates (R101, R102). -/

namespace Sys2Proof.Machine

variable {s : State}

/-! ## A DISPATCH with COIL pending -/

theorem irq_of_coil_pending (hcoil : s.pend.coil = true) : irq s = true :=
  irq_eq_true.mpr ⟨.coil, hcoil, nofun⟩

/-- COIL heads the check order, so no other pending source is selected before it (R188). -/
theorem selected_of_coil_pending (hcoil : s.pend.coil = true) : selected s = some .coil := by
  have hchk : chk s .coil = true := chk_eq_true.mpr ⟨hcoil, nofun⟩
  simp [selected, checkOrder, hchk]

theorem interruptRoutine_of_coil_pending (hcoil : s.pend.coil = true) :
    interruptRoutine s = coilService (acknowledge .coil s) := by
  simp [interruptRoutine, selected_of_coil_pending hcoil, service]

theorem exec_dispatch_of_coil_pending (hrun : s.halted = false) (hcoil : s.pend.coil = true) :
    exec .dispatch s = .next (coilService (acknowledge .coil s)) :=
  exec_dispatch_next.mpr ⟨hrun, by rw [if_pos (irq_of_coil_pending hcoil), interruptRoutine_of_coil_pending hcoil]⟩

/-- R100 in PAUSE: the dispatch runs the PULSE_ACTIVE entry. -/
theorem exec_dispatch_coil_pause (hrun : s.halted = false) (hcoil : s.pend.coil = true) (hphase : s.phase = .pause) :
    exec .dispatch s = .next (pulseActiveEntry (acknowledge .coil s)) := by
  rw [exec_dispatch_of_coil_pending hrun hcoil, coilService_pause (by simpa using hphase)]

/-- R100 in PULSE: the dispatch runs the PULSE_INACTIVE entry. -/
theorem exec_dispatch_coil_pulse (hrun : s.halted = false) (hcoil : s.pend.coil = true) (hphase : s.phase = .pulse) :
    exec .dispatch s = .next (pulseInactiveEntry (acknowledge .coil s)) := by
  rw [exec_dispatch_of_coil_pending hrun hcoil, coilService_pulse (by simpa using hphase)]

/-- Settles O20: the phase decides which entry the dispatch runs, and each entry writes the other phase. -/
theorem coilServiceTogglesThePhase : Obligations.CoilServiceTogglesThePhase :=
  fun _ hrun hcoil =>
    ⟨fun hphase => ⟨exec_dispatch_coil_pause hrun hcoil hphase, pulseActiveEntry_phase _⟩,
      fun hphase => ⟨exec_dispatch_coil_pulse hrun hcoil hphase, pulseInactiveEntry_phase _⟩⟩

/-! ## The two entry actions -/

/-- The timing capture in one update: a full mailbox is rewritten with its own sample, an empty one takes the count and
the PeriodCounter, and either way it is full afterwards. -/
theorem captureTiming_eq (s : State) : captureTiming s = { s with
    tCount := if s.tReady = true then s.tCount else s.dtCount
    tEdges := if s.tReady = true then s.tEdges else s.pcnt
    tReady := true } := by
  cases hfull : s.tReady with
  | false => simp [captureTiming, hfull]
  | true =>
    have hkeep : s = { s with tReady := true } := by rw [← hfull]
    simpa [captureTiming, hfull] using hkeep

/-- R101: the capture comes before the count is set to 0, so it reads the counts of the state before the entry. -/
theorem pulseActiveEntry_eq (s : State) : pulseActiveEntry s = { s with
    driveCfg := .cfgPulse, dtOn := false, dtGate := false
    tCount := if s.tReady = true then s.tCount else s.dtCount
    tEdges := if s.tReady = true then s.tEdges else s.pcnt
    tReady := true, dtCount := 0, coil := true, cie := false, phase := .pulse } := by
  simp [pulseActiveEntry, captureTiming_eq]

/-- R102 with R104: the busy-wait writes nothing, so the entry is its seven writes. -/
theorem pulseInactiveEntry_eq (s : State) : pulseInactiveEntry s = { s with
    cie := true, coil := false, dtOn := true, dtGate := false, driveCfg := .cfgPause, pcnt := 0, phase := .pause } :=
  rfl

/-- Settles O21: the dispatch is the PULSE_ACTIVE entry on the acknowledged state, which has the mailbox, the count and
the PeriodCounter from before. -/
theorem coilServiceInPauseEntersThePulse : Obligations.CoilServiceInPauseEntersThePulse := by
  intro s hrun hcoil hphase
  rw [exec_dispatch_coil_pause hrun hcoil hphase, pulseActiveEntry_eq]
  rfl

/-- Settles O22: the dispatch is the PULSE_INACTIVE entry on the acknowledged state. -/
theorem coilServiceInPulseEntersThePause : Obligations.CoilServiceInPulseEntersThePause := by
  intro s hrun hcoil hphase
  rw [exec_dispatch_coil_pulse hrun hcoil hphase, pulseInactiveEntry_eq]
  rfl

end Sys2Proof.Machine
end

section
/-! Proofs of the statements about edge counting (42_edge_counting.md): a DISPATCH that selects COMP is the edge service
(R120), whose three cases are record updates (R121 to R124), and the decay timer's count event (R126). -/

namespace Sys2Proof.Machine

variable {s : State}

/-! ## A DISPATCH that selects COMP -/

/-- COMP is second in the check order, after COIL (R188). -/
theorem selected_comp (hcoil : s.pend.coil = false) (hcomp : chk s .comp = true) : selected s = some .comp := by
  have hchk : chk s .coil = false := by simp [chk, Pending.get, hcoil]
  simp [selected, checkOrder, hchk, hcomp]

theorem exec_dispatch_of_comp_selected (hrun : s.halted = false) (hirq : irq s = true)
    (hsel : selected s = some .comp) : exec .dispatch s = .next (edgeService (acknowledge .comp s)) :=
  exec_dispatch_next.mpr ⟨hrun, by simp [hirq, interruptRoutine, hsel, service]⟩

/-! ## The edge service in each of its cases -/

/-- R123: arming leaves the timer's count and its run bit. -/
theorem edgeService_arm (h : comparedCount s = s.params.edgeArm) :
    edgeService s = { s with pcnt := incrementedCount s, dtGate := true } :=
  if_pos h

/-- R124: a capture is no arm, because `EDGE_ARM` differs from `EDGE_CAP`. -/
theorem edgeService_capture (h : comparedCount s = s.params.edgeCap) :
    edgeService s = captureFrequency { s with pcnt := incrementedCount s } := by
  have harm : comparedCount s ≠ s.params.edgeArm := h ▸ s.params.arm_ne_cap.symm
  rw [edgeService, if_neg harm, if_pos h]

/-- R122: any other count is a no-op besides the increment. -/
theorem edgeService_count (harm : comparedCount s ≠ s.params.edgeArm) (hcap : comparedCount s ≠ s.params.edgeCap) :
    edgeService s = { s with pcnt := incrementedCount s } := by
  rw [edgeService, if_neg harm, if_neg hcap]

/-- The frequency capture in one update: a full mailbox is rewritten with its own sample, an empty one takes the count,
and either way it is full afterwards. -/
theorem captureFrequencySample_eq (s : State) : captureFrequencySample s = { s with
    fCount := if s.fReady = true then s.fCount else s.dtCount, fReady := true } := by
  cases hfull : s.fReady with
  | false => simp [captureFrequencySample, hfull]
  | true =>
    have hkeep : s = { s with fReady := true } := by rw [← hfull]
    simpa [captureFrequencySample, hfull] using hkeep

/-- R124: the capture comes before the count is set to 0, so it reads the count of the state before. -/
theorem captureFrequency_eq (s : State) : captureFrequency s = { s with
    fCount := if s.fReady = true then s.fCount else s.dtCount
    fReady := true, dtCount := 0, dtGate := false, dtOn := true, dtPresc := .prescFull, cie := false } := by
  rw [captureFrequency, captureFrequencySample_eq]

/-- Settles O23: the dispatch is the edge service on the acknowledged state, which has the counts and the mailbox from
before, so the compared count selects the service's case. -/
theorem edgeServiceCountsArmsAndCaptures : Obligations.EdgeServiceCountsArmsAndCaptures := by
  rintro s hrun hirq hcoil hcomp hcheck _ _ rfl rfl
  have hsel : selected s = some .comp :=
    selected_comp hcoil (chk_eq_true.mpr ⟨hcomp, fun _ => hcheck⟩)
  rw [exec_dispatch_of_comp_selected hrun hirq hsel]
  refine ⟨fun harm => ?_, fun hcap => ?_, fun harm hcap => ?_⟩
  · rw [edgeService_arm (s := acknowledge .comp s) harm]
    rfl
  · rw [edgeService_capture (s := acknowledge .comp s) hcap, captureFrequency_eq]
    rfl
  · rw [edgeService_count (s := acknowledge .comp s) harm hcap]
    rfl

/-! ## The decay timer's count event -/

/-- R70: the code stands above the 24 operand bits. -/
theorem encode_toNat (i : Instr) : (encode i).toNat = i.opCode.toNat * 2 ^ 24 + i.operand.toNat := by
  rw [encode, BitVec.toNat_append, ← Nat.shiftLeft_add_eq_or_of_lt i.operand.isLt, Nat.shiftLeft_eq]

theorem decayCounts_eq_true {g : Bool} :
    decayCounts s g = true ↔ s.dtOn = true ∧ (s.dtGate = false ∨ g = true) := by
  simp [decayCounts]

/-- Settles O18: the word is the code `0x30` over the gate level, and R126's condition decides whether the timer
counts. -/
theorem decayTickCountsWhenOnAndOpen : Obligations.DecayTickCountsWhenOnAndOpen := by
  intro g s hrun
  constructor
  · simp [encode_toNat, operand_decayTick_toNat, Instr.opCode]
  · refine exec_decayTick_next.mpr ⟨hrun, ?_⟩
    simp only [decayCounts_eq_true]
    rfl

end Sys2Proof.Machine
end

section
/-! Proofs of the statements about the smoothers (43_smoothers.md): the two operations as record updates (R141, R145),
and that each reads and writes its own elements alone (R148). -/

namespace Sys2Proof.Machine

variable {x : Nat} {s u : State}

/-! ## A push reads and writes its own elements alone -/

/-- R148, TSMOOTH: a push into `u` writes what it writes into a state with the same timing elements, and keeps the
rest of `u`. -/
theorem returnMaximum_pushTiming_congr (hp : u.params = s.params) (hring : u.ringT = s.ringT) (hidx : u.idxT = s.idxT)
    (hacc : u.accT = s.accT) (hcnt : u.cntT = s.cntT) (hmax : u.tmax = s.tmax) :
    returnMaximum (pushTiming x u) = { u with
      ringT := (pushTiming x s).ringT, idxT := (pushTiming x s).idxT, accT := (pushTiming x s).accT
      cntT := (pushTiming x s).cntT, tmax := (pushTiming x s).tmax
      res := (returnMaximum (pushTiming x s)).res } := by
  by_cases hs : s.cntT + 1 = s.params.nb
  · have hu : u.cntT + 1 = u.params.nb := by rwa [hcnt, hp]
    rw [pushTiming_complete hs, pushTiming_complete hu, ← hp, ← hring, ← hidx, ← hacc]
    rfl
  · have hu : u.cntT + 1 ≠ u.params.nb := by rwa [hcnt, hp]
    rw [pushTiming_partial hs, pushTiming_partial hu, ← hring, ← hidx, ← hacc, ← hcnt, ← hmax]
    rfl

/-- R148, FSMOOTH: a push into `u` writes what it writes into a state with the same frequency elements, and keeps the
rest of `u`. -/
theorem returnMean_pushFrequency_congr (hp : u.params = s.params) (hring : u.ringF = s.ringF)
    (hidx : u.idxF = s.idxF) (hacc : u.accF = s.accF) (hcnt : u.cntF = s.cntF) (hsum : u.fsum = s.fsum) :
    returnMean (pushFrequency x u) = { u with
      ringF := (pushFrequency x s).ringF, idxF := (pushFrequency x s).idxF, accF := (pushFrequency x s).accF
      cntF := (pushFrequency x s).cntF, fsum := (pushFrequency x s).fsum
      res := (returnMean (pushFrequency x s)).res } := by
  by_cases hs : s.cntF + 1 = s.params.nb
  · have hu : u.cntF + 1 = u.params.nb := by rwa [hcnt, hp]
    rw [pushFrequency_complete hs, pushFrequency_complete hu, ← hp, ← hring, ← hidx, ← hacc, ← hsum]
    rfl
  · have hu : u.cntF + 1 ≠ u.params.nb := by rwa [hcnt, hp]
    rw [pushFrequency_partial hs, pushFrequency_partial hu, ← hp, ← hring, ← hidx, ← hacc, ← hcnt, ← hsum]
    rfl

/-- Settles O42: both states pass the operation's two checks or neither does, and the push itself depends on its own
elements alone. -/
theorem smoothersShareNoState : Obligations.SmoothersShareNoState := by
  constructor
  · intro x s u t h hp hhalt hring hidx hacc hcnt hmax
    obtain ⟨hx, hrun, rfl⟩ := exec_tsmooth_next.mp h
    exact exec_tsmooth_next.mpr ⟨hp ▸ hx, hhalt.trans hrun, returnMaximum_pushTiming_congr hp hring hidx hacc hcnt hmax⟩
  · intro x s u t h hp hhalt hring hidx hacc hcnt hsum
    obtain ⟨hx, hrun, rfl⟩ := exec_fsmooth_next.mp h
    exact exec_fsmooth_next.mpr ⟨hp ▸ hx, hhalt.trans hrun, returnMean_pushFrequency_congr hp hring hidx hacc hcnt hsum⟩

/-! ## Word, result and whole effect -/

/-- Settles O13: the code stands above the sample, and the push is a record update in each of the batch's two cases. -/
theorem tsmoothPushesIntoTheMaxFilter : Obligations.TsmoothPushesIntoTheMaxFilter := by
  intro x s hrun hx
  refine ⟨by simp [encode_toNat, Instr.opCode, Instr.operand], exec_tsmooth_next.mpr ⟨hx, hrun, ?_⟩⟩
  split
  next h => rw [pushTiming_complete h]; rfl
  next h => rw [pushTiming_partial h]; rfl

/-- Settles O14: the code stands above the sample, and the push is a record update in each of the batch's two cases. -/
theorem fsmoothPushesIntoTheMeanFilter : Obligations.FsmoothPushesIntoTheMeanFilter := by
  intro x s hrun hx
  refine ⟨by simp [encode_toNat, Instr.opCode, Instr.operand], exec_fsmooth_next.mpr ⟨hx, hrun, ?_⟩⟩
  split
  next h => rw [pushFrequency_complete h]; rfl
  next h => rw [pushFrequency_partial h]; rfl

end Sys2Proof.Machine
end

section
/-! Proofs of the statements about the host commands (44_host_commands.md): the two mailbox takes as record updates, full
and empty (R161, R162). -/

namespace Sys2Proof.Machine

variable {s : State}

/-! ## What a take leaves of its mailbox -/

/-- R161, full: only the flag is cleared, so the contents stay. -/
theorem takeTiming_full (h : s.tReady = true) :
    takeTiming s = { s with res := .timing true s.tCount s.tEdges, tReady := false } :=
  if_pos h

/-- R161, empty: the zeros are delivered whatever the contents are. -/
theorem takeTiming_empty (h : s.tReady ≠ true) : takeTiming s = { s with res := .timing false 0 0 } :=
  if_neg h

/-- R162, full: only the flag is cleared, so the contents stay. -/
theorem takeFrequency_full (h : s.fReady = true) :
    takeFrequency s = { s with res := .frequency true s.fCount, fReady := false } :=
  if_pos h

/-- R162, empty: the zeros are delivered whatever the contents are. -/
theorem takeFrequency_empty (h : s.fReady ≠ true) : takeFrequency s = { s with res := .frequency false 0 } :=
  if_neg h

/-! ## Word, result and whole effect -/

/-- Settles O10: a running block takes, and the mailbox's flag decides which of the two updates the take is. -/
theorem takeTDeliversTheTimingMailbox : Obligations.TakeTDeliversTheTimingMailbox := by
  refine ⟨by decide, fun s hrun => exec_takeT_next.mpr ⟨hrun, ?_⟩⟩
  split
  next h => exact takeTiming_full h
  next h => exact takeTiming_empty h

/-- Settles O11: a running block takes, and the mailbox's flag decides which of the two updates the take is. -/
theorem takeFDeliversTheFrequencyMailbox : Obligations.TakeFDeliversTheFrequencyMailbox := by
  refine ⟨by decide, fun s hrun => exec_takeF_next.mpr ⟨hrun, ?_⟩⟩
  split
  next h => exact takeFrequency_full h
  next h => exact takeFrequency_empty h

end Sys2Proof.Machine
end

section
/-! Proofs of the statements about the events and the dispatch (45_events_dispatch.md): the raise events and the requests
they leave (R180 to R187), the check chain of one DISPATCH with the service each check runs (R188, R189), and the block
while it is halted (R191). -/

namespace Sys2Proof.Machine

variable {s : State}

/-! ## The check chain -/

/-- Only the comparator's check reads more than the pending flag. -/
theorem chk_of_ne_comp {src : Source} (h : src ≠ .comp) : chk s src = s.pend.get src := by
  simp [chk, h]

/-- What is made of the first element that passes: one test in front of what the rest of the list gives. -/
theorem elim_find?_cons {α β : Type} {p : α → Bool} {f : α → β} {d : β} {a : α} {l : List α} :
    ((a :: l).find? p).elim d f = if p a = true then f a else (l.find? p).elim d f := by
  cases h : p a <;> simp [h]

theorem interruptRoutine_eq_elim_selected (s : State) : interruptRoutine s =
    (selected s).elim (raiseFatalUnhandledInterrupt s) fun src => service src (acknowledge src s) := by
  unfold interruptRoutine
  cases selected s <;> rfl

/-- R188 and R189: the routine as its six tests in check order, with the fatal fallback after them. -/
theorem interruptRoutine_eq_checkChain (s : State) : interruptRoutine s =
    if chk s .coil = true then coilService (acknowledge .coil s)
    else if chk s .comp = true then edgeService (acknowledge .comp s)
    else if chk s .audio = true then acknowledge .audio s
    else if chk s .millis = true then acknowledge .millis s
    else if chk s .serTx = true then acknowledge .serTx s
    else if chk s .serRx = true then acknowledge .serRx s
    else raiseFatalUnhandledInterrupt s := by
  rw [interruptRoutine_eq_elim_selected, selected, checkOrder]
  simp only [elim_find?_cons]
  rfl

theorem exec_dispatch_of_request (hrun : s.halted = false) (hirq : irq s = true) :
    exec .dispatch s = .next (interruptRoutine s) :=
  exec_dispatch_next.mpr ⟨hrun, if_pos hirq⟩

theorem exec_dispatch_of_no_request (hrun : s.halted = false) (hirq : irq s = false) :
    exec .dispatch s = .next s :=
  exec_dispatch_next.mpr ⟨hrun, by simp [hirq]⟩

/-- Settles O19: a request runs the interrupt routine, whose six tests read the pending flags, and for COMP also the
enable. -/
theorem dispatchServesTheFirstPassingCheck : Obligations.DispatchServesTheFirstPassingCheck := by
  refine ⟨by decide, fun s hrun => ⟨irq_eq_true, exec_dispatch_of_no_request hrun, fun hirq => ?_⟩⟩
  have hcomp : chk s .comp = true ↔
      s.pend.comp = true ∧ (s.params.cmpCheckUsesEnable = false ∨ s.cie = true) := by
    simp [chk_eq_true, Pending.get, or_comm]
  rw [exec_dispatch_of_request hrun hirq, interruptRoutine_eq_checkChain]
  simp only [hcomp, chk_of_ne_comp, ne_eq, reduceCtorEq, not_false_eq_true]
  rfl

/-! ## While halted -/

/-- An operand that fits is not refused, so the halted block stops the push by its fault. -/
theorem withSample_halted {x : Operand} {f : Nat → State → State} (hx : x.toNat < 2 ^ s.params.dw)
    (h : s.halted = true) : withSample x s f = .fault .halted := by
  have hfits : sampleFits s.params x = true := decide_eq_true hx
  rw [withSample, if_pos hfits, whileRunning_halted _ h]

/-- Settles O28: every operation but RESET takes its step through `whileRunning`, the two pushes after a check of the
operand that well-formedness passes. -/
theorem haltedBlocksEverythingButReset : Obligations.HaltedBlocksEverythingButReset := by
  intro i s hhalt hreset hwf
  cases i
  case reset => exact absurd rfl hreset
  case tsmooth =>
    exact withSample_halted (f := fun v t => returnMaximum (pushTiming v t)) (of_decide_eq_true hwf) hhalt
  case fsmooth =>
    exact withSample_halted (f := fun v t => returnMean (pushFrequency v t)) (of_decide_eq_true hwf) hhalt
  all_goals exact whileRunning_halted _ hhalt

/-! ## The raise events -/

/-- R187: every source but the comparator's is always enabled, so its pending flag is a request. -/
theorem irq_raise {src : Source} (h : src ≠ .comp) : irq (raise src s) = true :=
  irq_eq_true.mpr ⟨src, by simp, fun hcomp => absurd hcomp h⟩

/-- Settles O16: each event is `raise` of its own source, which leaves that source requesting. -/
theorem raiseSetsOnlyItsPendingFlag : Obligations.RaiseSetsOnlyItsPendingFlag := by
  refine ⟨by decide, fun s hrun => ⟨?_, ?_, ?_, ?_, ?_, ?_⟩⟩
  · exact ⟨_, exec_raiseCoil_next.mpr ⟨hrun, rfl⟩, rfl, irq_raise nofun⟩
  · exact ⟨_, exec_raiseAudio_next.mpr ⟨hrun, rfl⟩, rfl, irq_raise nofun⟩
  · exact ⟨_, exec_raiseMillis_next.mpr ⟨hrun, rfl⟩, rfl, irq_raise nofun⟩
  · exact ⟨_, exec_raiseSerTx_next.mpr ⟨hrun, rfl⟩, rfl, irq_raise nofun⟩
  · exact ⟨_, exec_raiseSerRx_next.mpr ⟨hrun, rfl⟩, rfl, irq_raise nofun⟩
  · exact ⟨_, exec_raiseUnknown_next.mpr ⟨hrun, rfl⟩, rfl, irq_raise nofun⟩

/-- Settles O17: the word is the code `0x11` over the latch choice, and the flag written is R181's latch rule. -/
theorem raiseCompLatchesByEnableOrChoice : Obligations.RaiseCompLatchesByEnableOrChoice := by
  intro l s hrun
  constructor
  · simp [encode_toNat, operand_raiseComp_toNat, Instr.opCode]
  · exact exec_raiseComp_next.mpr ⟨hrun, rfl⟩

end Sys2Proof.Machine
end

section
/-! Proofs of the statements about the exception (60_exceptions.md): when a DISPATCH takes FatalUnhandledInterrupt and
what it does to the fault bits (R201), and that no other operation raises it while every valid word has an effect
(R200). -/

namespace Sys2Proof.Machine

variable {i : Instr} {s : State} {src : Source}

/-! ## A request that no check passes -/

/-- R188: a comparator edge is kept from the check only by a masked enable that the check reads. -/
theorem chk_comp_eq_false :
    chk s .comp = false ↔ (s.pend.comp = true → s.cie = false ∧ s.params.cmpCheckUsesEnable = true) := by
  simp [chk, Pending.get]

/-- R188: the checks of the five other known sources read their pending flags alone. -/
theorem selected_eq_none_iff_pend : selected s = none ↔
    s.pend.coil = false ∧ s.pend.audio = false ∧ s.pend.millis = false ∧ s.pend.serTx = false ∧
      s.pend.serRx = false ∧ (s.pend.comp = true → s.cie = false ∧ s.params.cmpCheckUsesEnable = true) := by
  rw [selected_eq_none, ← chk_comp_eq_false]
  constructor
  · intro h
    have hclear (src : Source) (hcomp : src ≠ .comp) (hknown : src ≠ .unknown) : s.pend.get src = false :=
      (chk_of_ne_comp hcomp).symm.trans (h src hknown)
    exact ⟨hclear .coil nofun nofun, hclear .audio nofun nofun, hclear .millis nofun nofun,
      hclear .serTx nofun nofun, hclear .serRx nofun nofun, h .comp nofun⟩
  · rintro ⟨hcoil, haudio, hmillis, htx, hrx, hcomp⟩ src hknown
    cases src with
    | comp => exact hcomp
    | unknown => exact absurd rfl hknown
    | coil | audio | millis | serTx | serRx => simpa [chk_of_ne_comp, Pending.get]

/-- A source that is pending and enabled passes its check, under either reading of the comparator's. -/
theorem chk_of_pending_of_enabled (hpend : s.pend.get src = true) (hen : src = .comp → s.cie = true) :
    chk s src = true :=
  chk_eq_true.mpr ⟨hpend, fun hcomp => .inl (hen hcomp)⟩

/-- Where no check passes, only UNKNOWN can request: a known source that requests would pass its own. -/
theorem irq_of_selected_none (h : selected s = none) : irq s = true ↔ s.pend.unknown = true := by
  rw [irq_eq_true]
  constructor
  · rintro ⟨src, hpend, hen⟩
    by_cases hknown : src = .unknown
    · subst hknown
      exact hpend
    · have hfail : chk s src = false := selected_eq_none.mp h src hknown
      simp [chk_of_pending_of_enabled hpend hen] at hfail
  · exact fun hunknown => ⟨.unknown, hunknown, nofun⟩

/-- The Exceptions paragraph of R188: a request that no check passes is UNKNOWN's alone, a masked edge apart. -/
theorem request_without_check_iff : irq s = true ∧ selected s = none ↔
    s.pend.unknown = true ∧ s.pend.coil = false ∧ s.pend.audio = false ∧ s.pend.millis = false ∧
      s.pend.serTx = false ∧ s.pend.serRx = false ∧
      (s.pend.comp = true → s.cie = false ∧ s.params.cmpCheckUsesEnable = true) := by
  rw [and_congr_left irq_of_selected_none, selected_eq_none_iff_pend]

/-! ## What a DISPATCH does to the fault bits -/

/-- Every service but the fatal fallback keeps the fault bits. -/
theorem service_sameFaultBits (hknown : src ≠ .unknown) (s : State) : SameFaultBits s (service src s) := by
  cases src with
  | coil => exact coilService_sameFaultBits s
  | comp => exact edgeService_sameFaultBits s
  | audio | millis | serTx | serRx => exact ⟨rfl, rfl⟩
  | unknown => exact absurd rfl hknown

/-- R201: the routine falls back to the exception. -/
theorem exec_dispatch_of_no_check (hrun : s.halted = false) (hirq : irq s = true) (hsel : selected s = none) :
    exec .dispatch s = .next (raiseFatalUnhandledInterrupt s) := by
  rw [exec_dispatch_of_request hrun hirq, interruptRoutine_eq_elim_selected, hsel, Option.elim_none]

/-- A DISPATCH without a request changes nothing, and one that selects a source runs that source's service. -/
theorem exec_dispatch_sameFaultBits (hrun : s.halted = false) (h : ¬(irq s = true ∧ selected s = none)) :
    ∃ t, exec .dispatch s = .next t ∧ SameFaultBits s t := by
  cases hirq : irq s with
  | false => exact ⟨s, exec_dispatch_of_no_request hrun hirq, rfl, rfl⟩
  | true =>
    refine ⟨_, exec_dispatch_of_request hrun hirq, ?_⟩
    obtain ⟨src, hsel⟩ := Option.ne_none_iff_exists'.mp fun hnone => h ⟨hirq, hnone⟩
    rw [interruptRoutine_eq_elim_selected, hsel]
    exact service_sameFaultBits (selected_eq_some hsel).1 (acknowledge src s)

/-- Settles O24: the condition says that there is a request and no check passes, which is when the routine falls
back. -/
theorem fatalFallbackExactlyWhenOnlyUnknownRequests : Obligations.FatalFallbackExactlyWhenOnlyUnknownRequests := by
  intro s hrun
  rw [← request_without_check_iff]
  constructor
  · rintro ⟨hirq, hsel⟩
    exact exec_dispatch_of_no_check hrun hirq hsel
  · intro h
    obtain ⟨t, hexec, hhalt, hseen⟩ := exec_dispatch_sameFaultBits hrun h
    exact ⟨t, hexec, hhalt.trans hrun, hseen⟩

/-! ## The one exception -/

/-- R200: the only check a running block makes of an operation is that of a sample's width, which well-formedness
passes. -/
theorem exec_running (hrun : s.halted = false) (hwf : i.wellFormed s.params = true) : ∃ t, exec i s = .next t := by
  cases i
  case tsmooth => exact ⟨_, exec_tsmooth_next.mpr ⟨of_decide_eq_true hwf, hrun, rfl⟩⟩
  case fsmooth => exact ⟨_, exec_fsmooth_next.mpr ⟨of_decide_eq_true hwf, hrun, rfl⟩⟩
  case reset => exact ⟨_, exec_reset_next.mpr rfl⟩
  all_goals exact ⟨_, whileRunning_running _ hrun⟩

/-- Settles O27: an operation that sets a fault bit is a DISPATCH that took the exception; with no request, or with a
check that passes, it would have kept the bits. -/
theorem onlyDispatchRaisesTheOneException : Obligations.OnlyDispatchRaisesTheOneException := by
  refine ⟨fun e => by cases e; decide, fun i s hrun hwf => exec_running hrun hwf, fun s w i hrun hdec => ?_,
    fun i s t h hset => ?_⟩
  · obtain ⟨-, -, hwf⟩ := decode_sound hdec
    exact exec_running hrun hwf
  · obtain ⟨-, rfl⟩ | ⟨hrun, ⟨hhalt, hseen⟩ | ⟨rfl, rfl⟩⟩ := exec_faultBits_cases h
    · simp at hset
    · simp [hrun, hhalt, hseen] at hset
    · have hnocheck : irq s = true ∧ selected s = none := by
        by_contra hcheck
        obtain ⟨u, hu, hhalt, -⟩ := exec_dispatch_sameFaultBits hrun hcheck
        cases h.symm.trans hu
        simp [hrun] at hhalt
      exact ⟨rfl, hnocheck.1, hnocheck.2, rfl⟩

end Sys2Proof.Machine
end

section
/-! Proofs of the statements about the encoding (30_encoding.md) that are not about one word: the round trips between
operations and words (R70 to R73), and the decoder against the rows of opcode_table.json. -/

namespace Sys2Proof

open Sys2Proof.Machine (encode_toNat)

variable {p : Params} {w : OpWord} {i : Instr}

/-! ## The round trips -/

/-- Settles O1: the word of an operation holds its code and its operand, which is all the decoder asks of a well-formed
one. -/
theorem decodeOfEncodeIsIdentity : Obligations.DecodeOfEncodeIsIdentity :=
  fun _ i hwf => decode_complete (opField_encode i) (operandField_encode i) hwf

/-- R70: the code and the operand are all of a word. -/
theorem encode_eq_of_decode (h : decode p w = .ok i) : encode i = w := by
  obtain ⟨hop, ha, -⟩ := decode_eq_ok_iff_toNat.mp h
  apply BitVec.eq_of_toNat_eq
  rw [encode_toNat, hop, ha, Nat.div_add_mod']

/-- Settles O2: a decoded operation has the word's code and operand, and the decoder gives well-formed operations
only. -/
theorem encodeOfDecodeIsIdentity : Obligations.EncodeOfDecodeIsIdentity := by
  intro p w i h
  obtain ⟨-, -, hwf⟩ := decode_sound h
  exact ⟨encode_eq_of_decode h, hwf⟩

/-! ## The rows of the opcode table -/

/-- The mask that leaves the low `n` bits of a word free. -/
def highMask (n : Nat) : OpWord := BitVec.allOnes 32 <<< n

theorem maskX_eq_highMask (p : Params) : maskX p = highMask p.dw := by
  have hmasks : ∀ n : Fin 25,
      0xFF000000#32 ||| (0x00FFFFFF#32 &&& ~~~(BitVec.ofNat 32 (2 ^ n.val - 1))) = highMask n.val := by decide
  exact hmasks ⟨p.dw, Nat.lt_succ_of_le p.dw_le⟩

/-- What a row of the table says: the operation's code, and how many low operand bits its form leaves free (R71,
R72). -/
def rowForms (p : Params) : List (Nat × Nat) :=
  [(0x01, 0), (0x02, 0), (0x03, p.dw), (0x04, p.dw), (0x05, 5), (0x10, 0), (0x11, 1), (0x12, 0), (0x13, 0), (0x14, 0),
    (0x15, 0), (0x16, 0), (0x20, 0), (0x30, 1), (0xFF, 0)]

/-- The row of an operation code whose form leaves the low `n` operand bits free. -/
def formRow : Nat × Nat → OpcodeRow
  | (c, n) => ⟨highMask n, BitVec.ofNat 32 (c * 2 ^ 24)⟩

theorem opcodeRows_eq_map_formRow (p : Params) : opcodeRows p = (rowForms p).map formRow := by
  have hfree : highMask 0 = 0xFFFFFFFF#32 ∧ highMask 1 = 0xFFFFFFFE#32 ∧ highMask 5 = 0xFFFFFFE0#32 := by decide
  simp [opcodeRows, rowForms, formRow, maskX_eq_highMask, hfree]

theorem rowForms_bounds {f : Nat × Nat} (hf : f ∈ rowForms p) : f.1 < 2 ^ 8 ∧ f.2 ≤ 24 := by
  have hdw := p.dw_le
  simp only [rowForms, List.mem_cons, List.not_mem_nil, or_false] at hf
  obtain rfl | rfl | rfl | rfl | rfl | rfl | rfl | rfl | rfl | rfl | rfl | rfl | rfl | rfl | rfl := hf <;> omega

/-- Masking clears the low `n` bits. -/
theorem toNat_and_highMask (w : OpWord) (n : Nat) : (w &&& highMask n).toNat = w.toNat / 2 ^ n * 2 ^ n := by
  have hbits : w &&& highMask n = (w >>> n) <<< n := by
    ext j hj
    by_cases hjn : j < n
    · simp [highMask, hjn]
    · have hsum : n + (j - n) = j := by omega
      simp [highMask, hjn, hsum, BitVec.getLsbD_eq_getElem hj, -BitVec.reduceAllOnes]
  have hlt : w.toNat / 2 ^ n * 2 ^ n < 2 ^ 32 := lt_of_le_of_lt (Nat.div_mul_le_self _ _) w.isLt
  rw [hbits, BitVec.toNat_shiftLeft, BitVec.toNat_ushiftRight, Nat.shiftRight_eq_div_pow, Nat.shiftLeft_eq,
    Nat.mod_eq_of_lt hlt]

/-- Clearing the low `n` bits leaves the code alone exactly when the operand is below `2 ^ n`. -/
theorem div_mul_two_pow_eq_iff {a c n : Nat} (hn : n ≤ 24) :
    a / 2 ^ n * 2 ^ n = c * 2 ^ 24 ↔ a / 2 ^ 24 = c ∧ a % 2 ^ 24 < 2 ^ n := by
  obtain ⟨k, hk⟩ := Nat.exists_eq_add_of_le hn
  have hquot : a / 2 ^ 24 = a / 2 ^ n / 2 ^ k := by rw [hk, pow_add, Nat.div_div_eq_div_mul]
  have hoperand : a % 2 ^ 24 < 2 ^ n ↔ a / 2 ^ n % 2 ^ k = 0 := by
    rw [hk, pow_add, ← Nat.div_eq_zero_iff_lt (Nat.two_pow_pos n), Nat.mod_mul_right_div_self]
  have hcode : c * 2 ^ 24 = c * 2 ^ k * 2 ^ n := by rw [hk, pow_add]; ring
  rw [hquot, hoperand, hcode, Nat.mul_left_inj (Nat.two_pow_pos n).ne']
  have hdivmod := Nat.div_add_mod' (a / 2 ^ n) (2 ^ k)
  constructor
  · intro h
    rw [h]
    exact ⟨Nat.mul_div_cancel _ (Nat.two_pow_pos k), Nat.mul_mod_left _ _⟩
  · rintro ⟨rfl, hzero⟩
    rw [hzero] at hdivmod
    exact hdivmod.symm

/-- A row accepts the words of its code with an operand below `2 ^ n`. -/
theorem formRow_accepts_iff {f : Nat × Nat} (hf : f ∈ rowForms p) :
    w &&& (formRow f).mask = (formRow f).pattern ↔ w.toNat / 2 ^ 24 = f.1 ∧ w.toNat % 2 ^ 24 < 2 ^ f.2 := by
  obtain ⟨hcode, hn⟩ := rowForms_bounds hf
  simp only [formRow]
  rw [← BitVec.toNat_inj, toNat_and_highMask, BitVec.toNat_ofNat, Nat.mod_eq_of_lt (by omega),
    div_mul_two_pow_eq_iff hn]

/-- R73's valid fields are those of the table's rows. -/
theorem validFields_iff_exists_rowForm {c a : Nat} : ValidFields p c a ↔ ∃ f ∈ rowForms p, c = f.1 ∧ a < 2 ^ f.2 := by
  simp only [ValidFields, rowForms, List.mem_cons, List.not_mem_nil, or_false, exists_eq_or_imp, exists_eq_left,
    pow_zero, pow_one, Nat.lt_one_iff, Nat.reducePow]
  simp only [or_and_right, or_assoc]
  exact iff_of_eq (by ac_rfl)

/-- Settles O4: a word is valid when its code is some row's and its operand lies below that row's free bits. -/
theorem decoderAcceptsExactlyTheTableRows : Obligations.DecoderAcceptsExactlyTheTableRows := by
  intro p w
  rw [decode_accepts_iff, validFields_iff_exists_rowForm, opcodeRows_eq_map_formRow]
  simp only [List.mem_map, exists_exists_and_eq_and]
  exact exists_congr fun f => and_congr_right fun hf => (formRow_accepts_iff hf).symm

theorem rowForms_codes_nodup (p : Params) : ((rowForms p).map Prod.fst).Nodup := by
  simp only [rowForms, List.map_cons, List.map_nil]
  decide

/-- Settles O5: a row that accepts a word has the word's code, and no two rows have one code. -/
theorem tableRowsDoNotOverlap : Obligations.TableRowsDoNotOverlap := by
  intro p w r hr r' hr' h h'
  rw [opcodeRows_eq_map_formRow] at hr hr'
  obtain ⟨f, hf, rfl⟩ := List.mem_map.mp hr
  obtain ⟨f', hf', rfl⟩ := List.mem_map.mp hr'
  have hcode : f.1 = f'.1 := ((formRow_accepts_iff hf).mp h).1.symm.trans ((formRow_accepts_iff hf').mp h').1
  rw [List.inj_on_of_nodup_map (rowForms_codes_nodup p) hf hf' hcode]

/-! ## Single words -/

/-- Settles O6: each word is decoded at the default parameters. -/
theorem specWordsDecodeAsListed : Obligations.SpecWordsDecodeAsListed :=
  ⟨rfl, rfl, rfl, rfl, rfl, rfl, rfl, rfl, rfl, rfl, rfl⟩

/-- R73 for the V form: a word of SETREF's code with an operand of 32 or more has a bit that must be 0. -/
theorem decode_setref_word_of_wide_operand (hlo : 0x05000000 + 32 ≤ w.toNat) (hhi : w.toNat < 0x06000000) :
    decode p w = .error .mustBeZeroBits := by
  have hop : opField w = 0x05#8 := by
    apply BitVec.eq_of_toNat_eq
    rw [opField_toNat, BitVec.toNat_ofNat]
    omega
  have hwide : ¬(operandField w).extractLsb' 5 19 = 0 := by
    rw [extractLsb'_high_eq_zero rfl, operandField_toNat]
    omega
  simp only [decode, hop]
  exact if_neg hwide

open Sys2Proof.Machine in
/-- Settles O12: SETREF's one write, its code over its operand, and the refusal of a word whose operand is no DAC
step. -/
theorem setrefWritesTheReference : Obligations.SetrefWritesTheReference := by
  refine ⟨fun v s hrun => exec_setref_next.mpr ⟨hrun, rfl⟩, fun v => ?_,
    fun p w hlo hhi => decode_setref_word_of_wide_operand hlo hhi⟩
  simp [encode_toNat, operand_setref_toNat, Instr.opCode]

end Sys2Proof
end

section
/-! What each operation leaves unchanged, said once for the statements about the mailboxes, the ownership table and the
smoothers: the one update each host command and event makes (10_state.md R38). -/

namespace Sys2Proof.Machine

variable {i : Instr} {s t : State} {src : Source}

/-! ## One update for both cases of an effect -/

/-- TAKE_T in one update: an empty mailbox is rewritten with its own flag. -/
theorem takeTiming_eq (s : State) : takeTiming s = { s with
    tReady := false, res := if s.tReady = true then .timing true s.tCount s.tEdges else .timing false 0 0 } := by
  by_cases hfull : s.tReady = true
  · rw [takeTiming_full hfull, if_pos hfull]
  · have hkeep : s = { s with tReady := false } := by rw [← Bool.eq_false_of_not_eq_true hfull]
    rw [takeTiming_empty hfull, if_neg hfull]
    exact congrArg (deliver (.timing false 0 0)) hkeep

/-- TAKE_F in one update: an empty mailbox is rewritten with its own flag. -/
theorem takeFrequency_eq (s : State) : takeFrequency s = { s with
    fReady := false, res := if s.fReady = true then .frequency true s.fCount else .frequency false 0 } := by
  by_cases hfull : s.fReady = true
  · rw [takeFrequency_full hfull, if_pos hfull]
  · have hkeep : s = { s with fReady := false } := by rw [← Bool.eq_false_of_not_eq_true hfull]
    rw [takeFrequency_empty hfull, if_neg hfull]
    exact congrArg (deliver (.frequency false 0)) hkeep

/-- TSMOOTH writes the timing smoother and the result alone (R148). -/
theorem returnMaximum_pushTiming_eq (x : Nat) (s : State) : returnMaximum (pushTiming x s) = { s with
    ringT := (pushTiming x s).ringT, idxT := (pushTiming x s).idxT, accT := (pushTiming x s).accT
    cntT := (pushTiming x s).cntT, tmax := (pushTiming x s).tmax
    res := (returnMaximum (pushTiming x s)).res } :=
  returnMaximum_pushTiming_congr rfl rfl rfl rfl rfl rfl

/-- FSMOOTH writes the frequency smoother and the result alone (R148). -/
theorem returnMean_pushFrequency_eq (x : Nat) (s : State) : returnMean (pushFrequency x s) = { s with
    ringF := (pushFrequency x s).ringF, idxF := (pushFrequency x s).idxF, accF := (pushFrequency x s).accF
    cntF := (pushFrequency x s).cntF, fsum := (pushFrequency x s).fsum
    res := (returnMean (pushFrequency x s)).res } :=
  returnMean_pushFrequency_congr rfl rfl rfl rfl rfl rfl

theorem decayTick_eq (g : Bool) (s : State) : (if decayCounts s g = true then countDecay s else s) = { s with
    dtCount := if decayCounts s g = true then (s.dtCount + 1) % 2 ^ s.params.dw else s.dtCount } := by
  split <;> rfl

/-! ## What a DISPATCH can do -/

/-- A DISPATCH without a request changes nothing; with one it runs one entry of the controller, the edge service, an
outside service, or the fatal fallback (R187 to R189). -/
theorem exec_dispatch_cases (h : exec .dispatch s = .next t) : s.halted = false ∧ (
    t = s ∨
    (s.phase = .pause ∧ t = pulseActiveEntry (acknowledge .coil s)) ∨
    (s.phase = .pulse ∧ t = pulseInactiveEntry (acknowledge .coil s)) ∨
    (chk s .comp = true ∧ t = edgeService (acknowledge .comp s)) ∨
    (∃ src, t = acknowledge src s) ∨
    t = raiseFatalUnhandledInterrupt s) := by
  obtain ⟨hrun, rfl⟩ := exec_dispatch_next.mp h
  refine ⟨hrun, ?_⟩
  split
  case isFalse => exact .inl rfl
  obtain ⟨-, hr⟩ | ⟨-, hcomp, hr⟩ | ⟨src, -, -, -, hr⟩ | ⟨-, hr⟩ := interruptRoutine_cases s
  · cases hphase : s.phase with
    | pause => exact .inr (.inl ⟨rfl, hr.trans (coilService_pause hphase)⟩)
    | pulse => exact .inr (.inr (.inl ⟨rfl, hr.trans (coilService_pulse hphase)⟩))
  · exact .inr (.inr (.inr (.inl ⟨hcomp, hr⟩)))
  · exact .inr (.inr (.inr (.inr (.inl ⟨src, hr⟩))))
  · exact .inr (.inr (.inr (.inr (.inr hr))))

/-- The edge service counts one edge; beside that it writes the timer, the frequency mailbox and the enable (R121 to
R124). -/
theorem edgeService_writes (s : State) : edgeService s = { s with
    pcnt := incrementedCount s, cie := (edgeService s).cie
    dtCount := (edgeService s).dtCount, dtOn := (edgeService s).dtOn, dtGate := (edgeService s).dtGate
    dtPresc := (edgeService s).dtPresc
    fReady := (edgeService s).fReady, fCount := (edgeService s).fCount } := by
  obtain ⟨-, h⟩ | ⟨-, -, h⟩ | ⟨-, -, h⟩ := edgeService_cases s
  · rw [h]; rfl
  · rw [h, captureFrequency_eq]
  · rw [h]

@[simp] theorem edgeService_pcnt (s : State) : (edgeService s).pcnt = incrementedCount s := by
  rw [edgeService_writes]
@[simp] theorem edgeService_tReady (s : State) : (edgeService s).tReady = s.tReady := by
  rw [edgeService_writes]
@[simp] theorem edgeService_tCount (s : State) : (edgeService s).tCount = s.tCount := by
  rw [edgeService_writes]
@[simp] theorem edgeService_tEdges (s : State) : (edgeService s).tEdges = s.tEdges := by
  rw [edgeService_writes]
@[simp] theorem edgeService_pend (s : State) : (edgeService s).pend = s.pend := by
  rw [edgeService_writes]
@[simp] theorem edgeService_params (s : State) : (edgeService s).params = s.params := by
  rw [edgeService_writes]

/-- The edge service leaves the frequency mailbox, or captures the count into it when it is empty (R124). -/
theorem edgeService_frequencyMailbox (s : State) :
    ((edgeService s).fReady = s.fReady ∧ (edgeService s).fCount = s.fCount) ∨
    ((edgeService s).fReady = true ∧ (edgeService s).fCount = if s.fReady = true then s.fCount else s.dtCount) := by
  obtain ⟨-, h⟩ | ⟨-, -, h⟩ | ⟨-, -, h⟩ := edgeService_cases s
  · exact .inl (by simp [h])
  · exact .inr (by simp [h])
  · exact .inl (by simp [h])

/-- A service leaves every pending flag: only the routine clears one (R188). -/
theorem service_pend (src : Source) (s : State) : (service src s).pend = s.pend := by
  cases src with
  | coil => cases hphase : s.phase <;> simp [service, coilService, hphase]
  | comp => exact edgeService_pend s
  | audio | millis | serTx | serRx | unknown => rfl

theorem service_params (src : Source) (s : State) : (service src s).params = s.params := by
  cases src with
  | coil => cases hphase : s.phase <;> simp [service, coilService, hphase]
  | comp => exact edgeService_params s
  | audio | millis | serTx | serRx | unknown => rfl

/-! ## What no event reads or writes -/

/-- `s` with the elements that no event but RESET reads or writes taken from `u`: the reference, both smoothers, and the
model's result channel, stream and draw counter. -/
def withHostElements (u s : State) : State := { s with
  cmpref := u.cmpref
  ringT := u.ringT, idxT := u.idxT, accT := u.accT, cntT := u.cntT, tmax := u.tmax
  ringF := u.ringF, idxF := u.idxF, accF := u.accF, cntF := u.cntF, fsum := u.fsum
  res := u.res, ops := u.ops, draws := u.draws }

variable {u : State}

theorem pulseActiveEntry_withHostElements :
    pulseActiveEntry (withHostElements u s) = withHostElements u (pulseActiveEntry s) := by
  rw [pulseActiveEntry_eq, pulseActiveEntry_eq]
  rfl

theorem edgeService_withHostElements :
    edgeService (withHostElements u s) = withHostElements u (edgeService s) := by
  by_cases harm : comparedCount s = s.params.edgeArm
  · rw [edgeService_arm harm, edgeService_arm (s := withHostElements u s) harm]
    rfl
  by_cases hcap : comparedCount s = s.params.edgeCap
  · rw [edgeService_capture hcap, edgeService_capture (s := withHostElements u s) hcap, captureFrequency_eq,
      captureFrequency_eq]
    rfl
  · rw [edgeService_count harm hcap, edgeService_count (s := withHostElements u s) harm hcap]
    rfl

theorem service_withHostElements :
    service src (withHostElements u s) = withHostElements u (service src s) := by
  cases src with
  | coil =>
    cases hphase : s.phase with
    | pause =>
      rw [service, service, coilService_pause hphase, coilService_pause (s := withHostElements u s) hphase,
        pulseActiveEntry_withHostElements]
    | pulse =>
      rw [service, service, coilService_pulse hphase, coilService_pulse (s := withHostElements u s) hphase]
      rfl
  | comp => exact edgeService_withHostElements
  | audio | millis | serTx | serRx | unknown => rfl

theorem interruptRoutine_withHostElements :
    interruptRoutine (withHostElements u s) = withHostElements u (interruptRoutine s) := by
  have hsel : selected (withHostElements u s) = selected s := rfl
  rw [interruptRoutine_eq_elim_selected, interruptRoutine_eq_elim_selected, hsel]
  cases selected s with
  | none => rfl
  | some src => exact service_withHostElements (s := acknowledge src s)

/-- An event does the same whatever the reference, the smoothers and the result are, and carries them along. -/
theorem exec_event_withHostElements (he : i.issuer = .environment) (hi : i ≠ .reset) (h : exec i s = .next t)
    (u : State) : exec i (withHostElements u s) = .next (withHostElements u t) := by
  cases i
  case reset => exact absurd rfl hi
  case takeT | takeF | tsmooth | fsmooth | setref => cases he
  case dispatch =>
    obtain ⟨hrun, rfl⟩ := exec_dispatch_next.mp h
    have hirq : irq (withHostElements u s) = irq s := rfl
    refine exec_dispatch_next.mpr ⟨hrun, ?_⟩
    rw [hirq, interruptRoutine_withHostElements]
    split <;> rfl
  case decayTick g =>
    obtain ⟨hrun, rfl⟩ := exec_decayTick_next.mp h
    refine exec_decayTick_next.mpr ⟨hrun, ?_⟩
    rw [decayTick_eq, decayTick_eq]
    rfl
  all_goals
    obtain ⟨hrun, rfl⟩ := whileRunning_eq_next.mp h
    exact whileRunning_running _ hrun

/-- The frame of the events: what they do not read, they do not write either. -/
theorem exec_event_frame (he : i.issuer = .environment) (hi : i ≠ .reset) (h : exec i s = .next t) :
    t = withHostElements s t :=
  Host.Outcome.next.inj (h.symm.trans (exec_event_withHostElements he hi h s))

/-! ## The parameters, the stream, the result channel and the draws -/

theorem exec_params (h : exec i s = .next t) : t.params = s.params := by
  obtain ⟨-, rfl⟩ | ⟨-, hcases⟩ := exec_next_cases h
  · rfl
  obtain ⟨-, rfl⟩ | ⟨-, rfl⟩ | ⟨x, -, -, rfl⟩ | ⟨x, -, -, rfl⟩ | ⟨v, -, rfl⟩ | ⟨src, -, rfl⟩ | ⟨l, -, rfl⟩ |
    ⟨-, rfl⟩ | ⟨g, -, rfl⟩ := hcases
  · rw [takeTiming_eq]
  · rw [takeFrequency_eq]
  · rw [returnMaximum_pushTiming_eq]
  · rw [returnMean_pushFrequency_eq]
  · rfl
  · rfl
  · rfl
  · split
    · rw [interruptRoutine_eq_elim_selected]
      cases selected s with
      | none => rfl
      | some src => exact service_params src _
    · rfl
  · rw [decayTick_eq]

theorem exec_host_ops_draws (hhost : i.issuer = .host) (h : exec i s = .next t) :
    t.ops = s.ops ∧ t.draws = s.draws := by
  cases i
  case takeT => obtain ⟨-, rfl⟩ := exec_takeT_next.mp h; rw [takeTiming_eq]; exact ⟨rfl, rfl⟩
  case takeF => obtain ⟨-, rfl⟩ := exec_takeF_next.mp h; rw [takeFrequency_eq]; exact ⟨rfl, rfl⟩
  case tsmooth x => obtain ⟨-, -, rfl⟩ := exec_tsmooth_next.mp h; rw [returnMaximum_pushTiming_eq]; exact ⟨rfl, rfl⟩
  case fsmooth x => obtain ⟨-, -, rfl⟩ := exec_fsmooth_next.mp h; rw [returnMean_pushFrequency_eq]; exact ⟨rfl, rfl⟩
  case setref v => obtain ⟨-, rfl⟩ := exec_setref_next.mp h; exact ⟨rfl, rfl⟩
  all_goals cases hhost

/-- Settles O9: a host command writes its own elements and the result, an event none of the fields named, and RESET
the draws alone. -/
theorem noOperationWritesParametersOrStream : Obligations.NoOperationWritesParametersOrStream := by
  intro i s t h
  refine ⟨exec_params h, ?_⟩
  by_cases hi : i = .reset
  · subst hi
    rw [← exec_reset_next.mp h]
    exact ⟨rfl, fun _ => rfl, fun hne => absurd rfl hne⟩
  cases hissuer : i.issuer with
  | host =>
    obtain ⟨hops, hdraws⟩ := exec_host_ops_draws hissuer h
    exact ⟨hops, nofun, fun _ => hdraws⟩
  | environment =>
    rw [exec_event_frame hissuer hi h]
    exact ⟨rfl, fun _ => rfl, fun _ => rfl⟩

end Sys2Proof.Machine
end

section
/-! Proofs of the statements about the invariants (10_state.md R40): every operation keeps the block's invariant, the
limit of the edge count, and the launch states until a fault. -/

namespace Sys2Proof.Machine

open Sys2Proof.Safety

variable {i : Instr} {s t : State}

/-! ## The block's invariant -/

theorem blockInv_r0 (p : Params) (n : Nat) : BlockInv (State.r0 p n) := by
  have hslots : ∀ v ∈ List.replicate p.nr 0, v < 2 ^ p.dw := fun v hv => by
    rw [List.eq_of_mem_replicate hv]
    exact Nat.two_pow_pos _
  have hcount := Nat.two_pow_pos p.dw
  have hpcnt := Nat.two_pow_pos p.pcw
  exact ⟨⟨hcount, hcount, hcount, hpcnt, hpcnt, hslots, hslots⟩,
    ⟨List.length_replicate, List.length_replicate, p.nr_pos, p.nr_pos, p.nb_pos, p.nb_pos⟩,
    ⟨Nat.zero_le _, Nat.zero_le _⟩, by simp [RunningSumExact], by simp [MaximumExact], nofun, fun _ => rfl⟩

/-- Settles O33: `R0` is empty rings and zeros, at the default parameters as at any. -/
theorem invariantHoldsAtReset : Obligations.InvariantHoldsAtReset :=
  ⟨blockInv_r0 _ _, blockInv_r0⟩

theorem blockInv_pulseActiveEntry (h : BlockInv s) : BlockInv (pulseActiveEntry s) := by
  obtain ⟨⟨hcount, htime, hfreq, hpcnt, hedges, hslotsT, hslotsF⟩, hindices, hacc, hsum, hmax, -, -⟩ := h
  rw [pulseActiveEntry_eq]
  have htime' : (if s.tReady = true then s.tCount else s.dtCount) < 2 ^ s.params.dw := by split <;> assumption
  have hedges' : (if s.tReady = true then s.tEdges else s.pcnt) < 2 ^ s.params.pcw := by split <;> assumption
  exact ⟨⟨Nat.two_pow_pos _, htime', hfreq, hpcnt, hedges', hslotsT, hslotsF⟩, hindices, hacc, hsum, hmax,
    fun _ => ⟨rfl, rfl, fun _ => ⟨rfl, rfl, rfl⟩⟩, nofun⟩

theorem blockInv_pulseInactiveEntry (h : BlockInv s) : BlockInv (pulseInactiveEntry s) := by
  obtain ⟨⟨hcount, htime, hfreq, -, hedges, hslotsT, hslotsF⟩, hindices, hacc, hsum, hmax, -, -⟩ := h
  exact ⟨⟨hcount, htime, hfreq, Nat.two_pow_pos _, hedges, hslotsT, hslotsF⟩, hindices, hacc, hsum, hmax,
    nofun, fun _ => rfl⟩

/-- An edge is served in the pulse phase only when the check does not use the enable, and then item 6 of R40 asks
nothing of the timer. -/
theorem blockInv_edgeService (h : BlockInv s) (hcheck : s.cie = true ∨ s.params.cmpCheckUsesEnable = false) :
    BlockInv (edgeService s) := by
  obtain ⟨⟨hcount, htime, hfreq, hpcnt, hedges, hslotsT, hslotsF⟩, hindices, hacc, hsum, hmax, hpulse, hpause⟩ := h
  have hpcnt' : incrementedCount s < 2 ^ s.params.pcw := Nat.mod_lt _ (Nat.two_pow_pos _)
  have hfreq' : (if s.fReady = true then s.fCount else s.dtCount) < 2 ^ s.params.dw := by split <;> assumption
  have hquiet (hphase : s.phase = .pulse) :
      s.coil = true ∧ s.cie = false ∧ ¬s.params.cmpCheckUsesEnable = true := by
    obtain ⟨hcoil, hcie, -⟩ := hpulse hphase
    exact ⟨hcoil, hcie, by simpa [hcie] using hcheck⟩
  obtain ⟨-, he⟩ | ⟨-, -, he⟩ | ⟨-, -, he⟩ := edgeService_cases s
  · rw [he]
    refine ⟨⟨hcount, htime, hfreq, hpcnt', hedges, hslotsT, hslotsF⟩, hindices, hacc, hsum, hmax, fun hphase => ?_,
      hpause⟩
    obtain ⟨hcoil, hcie, huse⟩ := hquiet hphase
    exact ⟨hcoil, hcie, fun h => absurd h huse⟩
  · rw [he, captureFrequency_eq]
    refine ⟨⟨Nat.two_pow_pos _, htime, hfreq', hpcnt', hedges, hslotsT, hslotsF⟩, hindices, hacc, hsum, hmax,
      fun hphase => ?_, hpause⟩
    obtain ⟨hcoil, -, huse⟩ := hquiet hphase
    exact ⟨hcoil, rfl, fun h => absurd h huse⟩
  · rw [he]
    exact ⟨⟨hcount, htime, hfreq, hpcnt', hedges, hslotsT, hslotsF⟩, hindices, hacc, hsum, hmax, hpulse, hpause⟩

theorem blockInv_dispatch (h : BlockInv s) (hexec : exec .dispatch s = .next t) : BlockInv t := by
  obtain ⟨-, rfl | ⟨-, rfl⟩ | ⟨-, rfl⟩ | ⟨hcomp, rfl⟩ | ⟨src, rfl⟩ | rfl⟩ := exec_dispatch_cases hexec
  · exact h
  · exact blockInv_pulseActiveEntry (s := acknowledge .coil s) h
  · exact blockInv_pulseInactiveEntry (s := acknowledge .coil s) h
  · exact blockInv_edgeService (s := acknowledge .comp s) h ((chk_eq_true.mp hcomp).2 rfl)
  · exact h
  · exact h

/-- The timer counts modulo `2^DW`; in a quiet pulse it is off. -/
theorem blockInv_decayTick (g : Bool) (h : BlockInv s) :
    BlockInv (if decayCounts s g = true then countDecay s else s) := by
  split
  case isFalse => exact h
  next hcounts =>
    obtain ⟨⟨-, htime, hfreq, hpcnt, hedges, hslotsT, hslotsF⟩, hindices, hacc, hsum, hmax, hpulse, hpause⟩ := h
    refine ⟨⟨Nat.mod_lt _ (Nat.two_pow_pos _), htime, hfreq, hpcnt, hedges, hslotsT, hslotsF⟩, hindices, hacc, hsum,
      hmax, fun hphase => ?_, hpause⟩
    obtain ⟨hcoil, hcie, hquiet⟩ := hpulse hphase
    refine ⟨hcoil, hcie, fun huse => ?_⟩
    obtain ⟨hoff, -, -⟩ := hquiet huse
    simp [decayCounts_eq_true, hoff] at hcounts

/-- The average of a batch within `DW` bits stays within them (R40 items 2 and 3). -/
theorem average_lt {nb acc cnt x dw : Nat} (hc : cnt + 1 = nb) (hacc : acc ≤ cnt * (2 ^ dw - 1)) (hx : x < 2 ^ dw) :
    (acc + x) / nb < 2 ^ dw :=
  Nat.lt_of_le_sub_one (Nat.two_pow_pos dw) (batch_average_le hc hacc (Nat.le_sub_one_of_lt hx))

theorem accumulator_step {acc cnt x m : Nat} (hacc : acc ≤ cnt * (m - 1)) (hx : x < m) :
    acc + x ≤ (cnt + 1) * (m - 1) := by
  rw [Nat.add_one_mul]
  omega

theorem blockInv_pushTiming {x : Nat} (h : BlockInv s) (hx : x < 2 ^ s.params.dw) : BlockInv (pushTiming x s) := by
  obtain ⟨⟨hcount, htime, hfreq, hpcnt, hedges, hslotsT, hslotsF⟩, ⟨hlenT, hlenF, hidxT, hidxF, hcntT, hcntF⟩,
    ⟨haccT, haccF⟩, hsum, hmax, hphases⟩ := h
  by_cases hc : s.cntT + 1 = s.params.nb
  · rw [pushTiming_complete hc]
    exact ⟨⟨hcount, htime, hfreq, hpcnt, hedges, mem_set_lt hslotsT (average_lt hc haccT hx), hslotsF⟩,
      ⟨List.length_set.trans hlenT, hlenF, advance_lt s.params.nr_pos, hidxF, s.params.nb_pos, hcntF⟩,
      ⟨Nat.zero_le _, haccF⟩, hsum, rfl, hphases⟩
  · rw [pushTiming_partial hc]
    exact ⟨⟨hcount, htime, hfreq, hpcnt, hedges, hslotsT, hslotsF⟩,
      ⟨hlenT, hlenF, hidxT, hidxF, Nat.lt_of_le_of_ne hcntT hc, hcntF⟩, ⟨accumulator_step haccT hx, haccF⟩, hsum, hmax,
      hphases⟩

theorem blockInv_pushFrequency {x : Nat} (h : BlockInv s) (hx : x < 2 ^ s.params.dw) :
    BlockInv (pushFrequency x s) := by
  obtain ⟨⟨hcount, htime, hfreq, hpcnt, hedges, hslotsT, hslotsF⟩, ⟨hlenT, hlenF, hidxT, hidxF, hcntT, hcntF⟩,
    ⟨haccT, haccF⟩, hsum, hmax, hphases⟩ := h
  by_cases hc : s.cntF + 1 = s.params.nb
  · rw [pushFrequency_complete hc]
    have hsum' : s.fsum - s.ringF.getD s.idxF 0 + (s.accF + x) / s.params.nb =
        (s.ringF.set s.idxF ((s.accF + x) / s.params.nb)).sum := by
      rw [sum_set _ (hlenF ▸ hidxF), hsum]
    exact ⟨⟨hcount, htime, hfreq, hpcnt, hedges, hslotsT, mem_set_lt hslotsF (average_lt hc haccF hx)⟩,
      ⟨hlenT, List.length_set.trans hlenF, hidxT, advance_lt s.params.nr_pos, hcntT, s.params.nb_pos⟩,
      ⟨haccT, Nat.zero_le _⟩, hsum', hmax, hphases⟩
  · rw [pushFrequency_partial hc]
    exact ⟨⟨hcount, htime, hfreq, hpcnt, hedges, hslotsT, hslotsF⟩,
      ⟨hlenT, hlenF, hidxT, hidxF, hcntT, Nat.lt_of_le_of_ne hcntF hc⟩, ⟨haccT, accumulator_step haccF hx⟩, hsum, hmax,
      hphases⟩

/-- Every operation keeps the invariant; one that writes none of the elements the invariant reads does so by
definition. -/
theorem exec_keeps_blockInv (hinv : BlockInv s) (h : exec i s = .next t) : BlockInv t := by
  obtain ⟨-, rfl⟩ | ⟨-, hcases⟩ := exec_next_cases h
  · exact blockInv_r0 s.params s.draws
  obtain ⟨-, rfl⟩ | ⟨-, rfl⟩ | ⟨x, -, hx, rfl⟩ | ⟨x, -, hx, rfl⟩ | ⟨v, -, rfl⟩ | ⟨src, -, rfl⟩ | ⟨l, -, rfl⟩ |
    ⟨rfl, -⟩ | ⟨g, -, rfl⟩ := hcases
  · rw [takeTiming_eq]; exact hinv
  · rw [takeFrequency_eq]; exact hinv
  · exact blockInv_pushTiming hinv hx
  · exact blockInv_pushFrequency hinv hx
  · exact hinv
  · exact hinv
  · exact hinv
  · exact blockInv_dispatch hinv h
  · exact blockInv_decayTick g hinv

/-- Settles O34: a step waits or runs one operation, and the invariant does not read the stream. -/
theorem everyStepKeepsTheInvariant : Obligations.EveryStepKeepsTheInvariant := by
  intro s t hinv h
  obtain ⟨-, rfl⟩ | ⟨w, rest, i, -, -, hi⟩ := step_next_cases h
  · exact hinv
  · exact exec_keeps_blockInv (s := { s with ops := rest }) hinv hi

/-- Settles O37: items 6 and 7 of R40, which the step keeps, are the two halves. -/
theorem coilIsDrivenExactlyInThePulse : Obligations.CoilIsDrivenExactlyInThePulse := by
  intro s t hinv h
  obtain ⟨-, -, -, -, -, hpulse, hpause⟩ := everyStepKeepsTheInvariant s t hinv h
  cases hphase : t.phase with
  | pulse => simp [(hpulse hphase).1]
  | pause => simp [hpause hphase]

/-! ## Launch states -/

/-- A step that halts the block sets `fault_seen` (R37). -/
theorem step_halts_with_faultSeen (hrun : s.halted = false) (h : step s = .next t) (hhalt : t.halted = true) :
    t.faultSeen = true := by
  obtain ⟨-, rfl⟩ | ⟨w, rest, i, -, -, hi⟩ := step_next_cases h
  · simp [hrun] at hhalt
  · obtain ⟨hsticky, -⟩ := faultSeenIsStickyAndHaltEndsOnlyByReset
    obtain ⟨-, hset, -⟩ := hsticky i _ t hi
    exact hset hrun hhalt

/-- Settles O36: the invariant is kept by every step, and a step that halts is a fault seen. -/
theorem launchStatesStayAdmittedUntilAFault : Obligations.LaunchStatesStayAdmittedUntilAFault := by
  rintro s t ⟨hinv, hrun, -⟩ h
  have hinv' : BlockInv t := everyStepKeepsTheInvariant s t hinv h
  refine ⟨hinv', fun hnofault => ⟨hinv', ?_, hnofault⟩⟩
  by_contra hhalt
  have hseen := step_halts_with_faultSeen hrun h (Bool.eq_true_of_not_eq_false hhalt)
  simp [NoFault, hseen] at hnofault

/-! ## The limit of the edge count -/

/-- The ceiling fits PeriodCounter, so below it an edge is counted without a wrap. -/
theorem incrementedCount_of_lt_ceiling (h : s.pcnt < edgeCeiling s.params) : incrementedCount s = s.pcnt + 1 := by
  have hfits := s.params.cap_fits
  apply Nat.mod_eq_of_lt
  unfold edgeCeiling at h
  split at h <;> omega

/-- An edge served while the comparator is enabled reaches the ceiling only as the capture, which masks it (R124). -/
theorem edgeCountLimited_edgeService (h : EdgeCountLimited s) (hcie : s.cie = true) :
    EdgeCountLimited (edgeService s) := by
  have hlt : s.pcnt < edgeCeiling s.params := h.2 hcie
  have hinc := incrementedCount_of_lt_ceiling hlt
  refine ⟨by simpa [hinc] using hlt, fun henabled => ?_⟩
  have hcap : comparedCount s ≠ s.params.edgeCap := by
    intro hcap
    rw [edgeService_capture hcap, captureFrequency_eq] at henabled
    cases henabled
  rw [edgeService_pcnt, edgeService_params, hinc]
  unfold comparedCount at hcap
  unfold edgeCeiling at hlt ⊢
  split at hcap
  next hread =>
    rw [if_pos hread] at hlt ⊢
    omega
  next hread =>
    rw [if_neg hread] at hlt ⊢
    omega

/-- Only a DISPATCH and RESET write what the limit reads. -/
theorem exec_keeps_edgeCountLimited (huse : s.params.cmpCheckUsesEnable = true) (hpos : 0 < edgeCeiling s.params)
    (hlim : EdgeCountLimited s) (h : exec i s = .next t) : EdgeCountLimited t := by
  obtain ⟨-, rfl⟩ | ⟨-, hcases⟩ := exec_next_cases h
  · exact ⟨Nat.zero_le _, nofun⟩
  obtain ⟨-, rfl⟩ | ⟨-, rfl⟩ | ⟨x, -, -, rfl⟩ | ⟨x, -, -, rfl⟩ | ⟨v, -, rfl⟩ | ⟨src, -, rfl⟩ | ⟨l, -, rfl⟩ |
    ⟨rfl, -⟩ | ⟨g, -, rfl⟩ := hcases
  · rw [takeTiming_eq]; exact hlim
  · rw [takeFrequency_eq]; exact hlim
  · rw [returnMaximum_pushTiming_eq]; exact hlim
  · rw [returnMean_pushFrequency_eq]; exact hlim
  · exact hlim
  · exact hlim
  · exact hlim
  · obtain ⟨-, rfl | ⟨-, rfl⟩ | ⟨-, rfl⟩ | ⟨hcomp, rfl⟩ | ⟨src, rfl⟩ | rfl⟩ := exec_dispatch_cases h
    · exact hlim
    · rw [pulseActiveEntry_eq]
      exact ⟨hlim.1, nofun⟩
    · exact ⟨Nat.zero_le _, fun _ => hpos⟩
    · have hcie : s.cie = true := by simpa [huse] using (chk_eq_true.mp hcomp).2 rfl
      exact edgeCountLimited_edgeService (s := acknowledge .comp s) hlim hcie
    · exact hlim
    · exact hlim
  · rw [decayTick_eq]; exact hlim

/-- Settles O35: the premises make the ceiling positive and the check use the enable, and a step waits or runs one
operation. -/
theorem everyStepKeepsTheEdgeCountLimit : Obligations.EveryStepKeepsTheEdgeCountLimit := by
  refine ⟨fun p n => ⟨Nat.zero_le _, nofun⟩, fun s t huse hcap hlim h => ?_⟩
  have hpos : 0 < edgeCeiling s.params := by
    unfold edgeCeiling
    split <;> simp_all
  obtain ⟨-, rfl⟩ | ⟨w, rest, i, -, -, hi⟩ := step_next_cases h
  · exact hlim
  · exact exec_keeps_edgeCountLimited (s := { s with ops := rest }) huse hpos hlim hi

end Sys2Proof.Machine
end

section
/-! Proofs of the statements about one DISPATCH and six (45_events_dispatch.md section 2): the flag that is cleared, and
that no known request is left. -/

namespace Sys2Proof.Machine

open Sys2Proof.Safety

variable {s t : State} {src other : Source}

/-! ## The one flag a DISPATCH clears -/

theorem interruptRoutine_of_selected (hsel : selected s = some src) :
    interruptRoutine s = service src (acknowledge src s) := by
  rw [interruptRoutine_eq_elim_selected, hsel, Option.elim_some]

/-- R188: the service follows the acknowledgement and leaves the flags. -/
theorem interruptRoutine_pend (hsel : selected s = some src) :
    (interruptRoutine s).pend = s.pend.set false src := by
  rw [interruptRoutine_of_selected hsel, service_pend, acknowledge_pend]

/-- The check order holds every source once, so what precedes the source selected is what was checked before it. -/
theorem chk_before_selected {before after : List Source} (hsel : selected s = some src)
    (horder : checkOrder = before ++ src :: after) (hother : other ∈ before) : chk s other = false := by
  have hnodup : checkOrder.Nodup := by decide
  rw [selected, horder, List.find?_append] at hsel
  rw [horder] at hnodup
  cases hfind : before.find? (chk s) with
  | none => exact Bool.eq_false_of_not_eq_true (List.find?_eq_none.mp hfind other hother)
  | some first =>
    rw [hfind, Option.some_or, Option.some.injEq] at hsel
    subst hsel
    obtain ⟨-, -, hdisjoint⟩ := List.nodup_append.mp hnodup
    exact absurd rfl (hdisjoint _ (List.mem_of_find?_eq_some hfind) _ List.mem_cons_self)

/-- Settles O25: the source selected is pending, heads the sources whose check passes, and is the one acknowledged. -/
theorem dispatchClearsExactlyOneFlag : Obligations.DispatchClearsExactlyOneFlag := by
  intro s src hrun hirq hsel
  obtain ⟨-, hchk⟩ := selected_eq_some hsel
  refine ⟨(chk_eq_true.mp hchk).1, fun _ _ horder _ hother => chk_before_selected hsel horder hother,
    _, exec_dispatch_of_request hrun hirq, ?_, fun other hne => ?_⟩
  · rw [interruptRoutine_pend hsel, pending_get_set_same]
  · rw [interruptRoutine_pend hsel, pending_get_set_other _ _ hne]

/-! ## Six dispatches -/

/-- The known sources that are pending, in check order. -/
def pendingKnown (s : State) : List Source := checkOrder.filter s.pend.get

theorem irq_false_of_pendingKnown_nil (hunknown : s.pend.unknown = false) (h : pendingKnown s = []) :
    irq s = false := by
  rw [← Bool.not_eq_true, irq_eq_true]
  rintro ⟨src, hpend, -⟩
  by_cases hsrc : src = .unknown
  · subst hsrc
    simp [Pending.get, hunknown] at hpend
  · exact List.filter_eq_nil_iff.mp h src (mem_checkOrder.mpr hsrc) hpend

/-- A request with UNKNOWN not pending is a known source's, whose check passes. -/
theorem exists_selected_of_request (hunknown : s.pend.unknown = false) (hirq : irq s = true) :
    ∃ src, selected s = some src := by
  apply Option.ne_none_iff_exists'.mp
  intro hnone
  simp [(irq_of_selected_none hnone).mp hirq] at hunknown

/-- Acknowledging a known source that is pending leaves fewer of them. -/
theorem pendingKnown_length_lt (hknown : src ≠ .unknown) (hpend : s.pend.get src = true)
    (ht : t.pend = s.pend.set false src) : (pendingKnown t).length < (pendingKnown s).length := by
  have hfilter : pendingKnown t = (pendingKnown s).filter (· ≠ src) := by
    rw [pendingKnown, pendingKnown, List.filter_filter, ht]
    refine List.filter_congr fun other _ => ?_
    by_cases hother : other = src
    · subst hother
      simp
    · simp [hother, pending_get_set_other _ _ hother]
  rw [hfilter, List.length_filter_lt_length_iff_exists]
  exact ⟨src, List.mem_filter.mpr ⟨mem_checkOrder.mpr hknown, hpend⟩, by simp⟩

/-- `n` dispatches serve at least `n` known requests: they end without a request when no more are pending. -/
theorem execAll_dispatch_serves (n : Nat) (hrun : s.halted = false) (hunknown : s.pend.unknown = false)
    (hn : irq s = false ∨ (pendingKnown s).length ≤ n) :
    ∃ t, execAll (List.replicate n .dispatch) s = .next t ∧ irq t = false ∧ t.halted = false ∧
      t.faultSeen = s.faultSeen := by
  induction n generalizing s with
  | zero =>
    refine ⟨s, rfl, ?_, hrun, rfl⟩
    exact hn.elim id fun hlen =>
      irq_false_of_pendingKnown_nil hunknown (List.length_eq_zero_iff.mp (Nat.le_zero.mp hlen))
  | succ n ih =>
    cases hirq : irq s with
    | false =>
      obtain ⟨t, ht, hrest⟩ := ih hrun hunknown (.inl hirq)
      exact ⟨t, execAll_cons_next.mpr ⟨s, exec_dispatch_of_no_request hrun hirq, ht⟩, hrest⟩
    | true =>
      obtain ⟨src, hsel⟩ := exists_selected_of_request hunknown hirq
      obtain ⟨hknown, hchk⟩ := selected_eq_some hsel
      have hpend := interruptRoutine_pend hsel
      have hexec := exec_dispatch_of_request hrun hirq
      have hfewer := pendingKnown_length_lt hknown (chk_eq_true.mp hchk).1 hpend
      have hunknown' : (interruptRoutine s).pend.unknown = false := by
        rw [hpend]
        exact (pending_get_set_other s.pend false hknown.symm).trans hunknown
      obtain ⟨u, hu, hhalt, hseen⟩ := exec_dispatch_sameFaultBits hrun (by simp [hsel])
      obtain rfl : interruptRoutine s = u := Host.Outcome.next.inj (hexec.symm.trans hu)
      have hlen : (pendingKnown (interruptRoutine s)).length ≤ n := by
        have := hn.resolve_left (by simp [hirq])
        omega
      obtain ⟨t, ht, hno, hrun', hseen'⟩ := ih (hhalt.trans hrun) hunknown' (.inr hlen)
      exact ⟨t, execAll_cons_next.mpr ⟨_, hexec, ht⟩, hno, hrun', hseen'.trans hseen⟩

/-- Settles O26: there are six known sources. -/
theorem sixDispatchesServeEveryKnownRequest : Obligations.SixDispatchesServeEveryKnownRequest :=
  fun _ hrun hunknown => execAll_dispatch_serves 6 hrun hunknown (.inr (List.length_filter_le _ checkOrder))

/-! ## The first coil expiration after reset -/

/-- Settles O32: the raised flag makes the dispatch the PULSE_ACTIVE entry, and the mailbox it captures into is empty
and the counts are 0. -/
theorem firstCoilServiceCapturesTheWarmUpSample : Obligations.FirstCoilServiceCapturesTheWarmUpSample := by
  intro p n
  have hraise : exec .raiseCoil (State.r0 p n) = .next (raise .coil (State.r0 p n)) :=
    exec_raiseCoil_next.mpr ⟨rfl, rfl⟩
  have hserve := exec_dispatch_coil_pause (s := raise .coil (State.r0 p n)) rfl rfl rfl
  refine ⟨_, execAll_cons_next.mpr ⟨_, hraise, execAll_cons_next.mpr ⟨_, hserve, rfl⟩⟩, ?_⟩
  rw [pulseActiveEntry_eq]
  exact ⟨rfl, rfl, rfl, rfl, rfl, rfl, rfl⟩

end Sys2Proof.Machine
end

section
/-! Proofs of the statements about the ownership of the state's elements (10_state.md R33, R38), the mailbox handoff and
the smoothers among events (20_memory.md R58, R61), and the masked comparator (42_edge_counting.md R127). -/

namespace Sys2Proof.Machine

open Sys2Proof.Safety

variable {i : Instr} {s t : State} {src : Source}

/-! ## The ownership table -/

/-- A flag set after an acknowledgement was set before. -/
theorem pending_get_of_set_false {q : Pending} {other : Source} (h : (q.set false src).get other = true) :
    q.get other = true := by
  by_cases hother : other = src
  · subst hother
    simp at h
  · rwa [pending_get_set_other q false hother] at h

/-- A flag set before a raise is set after it. -/
theorem pending_get_set_of_imp {q : Pending} {b : Bool} {other : Source} (hb : q.get src = true → b = true)
    (h : q.get other = true) : (q.set b src).get other = true := by
  by_cases hother : other = src
  · subst hother
    simpa using hb h
  · rwa [pending_get_set_other q b hother]

theorem compLatch_of_pending {l : Bool} (h : s.pend.get .comp = true) : compLatch s l = true := by
  have hcomp : s.pend.comp = true := h
  simp [compLatch, hcomp]

/-- What a DISPATCH writes beside its own elements: it sets ready flags and clears pending ones. -/
theorem exec_dispatch_flags (h : exec .dispatch s = .next t) :
    (s.tReady = true → t.tReady = true) ∧ (s.fReady = true → t.fReady = true) ∧
    ∀ src, t.pend.get src = true → s.pend.get src = true := by
  obtain ⟨-, rfl | ⟨-, rfl⟩ | ⟨-, rfl⟩ | ⟨-, rfl⟩ | ⟨src, rfl⟩ | rfl⟩ := exec_dispatch_cases h
  · exact ⟨id, id, fun _ => id⟩
  · exact ⟨by simp, by simp, fun _ hsrc => pending_get_of_set_false (by simpa using hsrc)⟩
  · exact ⟨id, id, fun _ => pending_get_of_set_false⟩
  · refine ⟨by simp, fun hfull => ?_, fun _ hsrc => pending_get_of_set_false (by simpa using hsrc)⟩
    obtain ⟨hready, -⟩ | ⟨hready, -⟩ := edgeService_frequencyMailbox (acknowledge .comp s)
    · exact hready.trans hfull
    · exact hready
  · exact ⟨id, id, fun _ => pending_get_of_set_false⟩
  · exact ⟨id, id, fun _ => id⟩

/-- Settles O41: every operation but DISPATCH is one update of its own elements; a DISPATCH keeps what no event
writes. -/
theorem eachElementIsWrittenOnlyByItsOwners : Obligations.EachElementIsWrittenOnlyByItsOwners := by
  intro i s t h hi
  obtain hreset | ⟨-, hcases⟩ := exec_next_cases h
  · exact absurd hreset.1 hi
  obtain ⟨rfl, rfl⟩ | ⟨rfl, rfl⟩ | ⟨x, rfl, -, rfl⟩ | ⟨x, rfl, -, rfl⟩ | ⟨v, rfl, rfl⟩ | ⟨src, hsrc, rfl⟩ |
    ⟨l, rfl, rfl⟩ | ⟨rfl, -⟩ | ⟨g, rfl, rfl⟩ := hcases
  · simp [takeTiming_eq]
  · simp [takeFrequency_eq]
  · rw [returnMaximum_pushTiming_eq]; simp
  · rw [returnMean_pushFrequency_eq]; simp
  · simp
  · have hevent : ∀ j ∈ [Instr.raiseCoil, .raiseAudio, .raiseMillis, .raiseSerTx, .raiseSerRx, .raiseUnknown],
        j.issuer = .environment ∧ j ≠ .dispatch := by decide
    obtain ⟨hissuer, hdispatch⟩ := hevent i hsrc
    have hpend (other : Source) : s.pend.get other = true → (s.pend.set true src).get other = true :=
      pending_get_set_of_imp fun _ => rfl
    simpa [hissuer, hdispatch] using hpend
  · have hpend (other : Source) : s.pend.get other = true → (s.pend.set (compLatch s l) .comp).get other = true :=
      pending_get_set_of_imp compLatch_of_pending
    simpa [Instr.issuer] using hpend
  · obtain ⟨htime, hfreq, hpend⟩ := exec_dispatch_flags h
    have hframe : t = withHostElements s t := exec_event_frame rfl hi h
    refine ⟨fun hne => absurd rfl hne, fun _ => ?_, fun _ => ?_, fun _ => ?_, fun hne => absurd rfl hne,
      fun _ => htime, fun _ => hfreq, nofun, fun src _ => hpend src, fun _ hne => absurd rfl hne⟩
    · rw [hframe]; rfl
    · rw [hframe]; exact ⟨rfl, rfl, rfl, rfl, rfl⟩
    · rw [hframe]; exact ⟨rfl, rfl, rfl, rfl, rfl⟩
  · rw [decayTick_eq]; simp [Instr.issuer]

/-! ## The mailboxes -/

/-- What a DISPATCH leaves in the timing mailbox: what was there, or R101's capture, which a full mailbox ignores. -/
theorem exec_dispatch_timingMailbox (h : exec .dispatch s = .next t) :
    (t.tReady = s.tReady ∧ t.tCount = s.tCount ∧ t.tEdges = s.tEdges) ∨
    (t.tReady = true ∧ t.tCount = (if s.tReady = true then s.tCount else s.dtCount) ∧
      t.tEdges = if s.tReady = true then s.tEdges else s.pcnt) := by
  obtain ⟨-, rfl | ⟨-, rfl⟩ | ⟨-, rfl⟩ | ⟨-, rfl⟩ | ⟨src, rfl⟩ | rfl⟩ := exec_dispatch_cases h
  · exact .inl ⟨rfl, rfl, rfl⟩
  · rw [pulseActiveEntry_eq]; exact .inr ⟨rfl, rfl, rfl⟩
  · exact .inl ⟨rfl, rfl, rfl⟩
  · exact .inl (by simp)
  · exact .inl ⟨rfl, rfl, rfl⟩
  · exact .inl ⟨rfl, rfl, rfl⟩

/-- What a DISPATCH leaves in the frequency mailbox: what was there, or R124's capture, which a full mailbox ignores. -/
theorem exec_dispatch_frequencyMailbox (h : exec .dispatch s = .next t) :
    (t.fReady = s.fReady ∧ t.fCount = s.fCount) ∨
    (t.fReady = true ∧ t.fCount = if s.fReady = true then s.fCount else s.dtCount) := by
  obtain ⟨-, rfl | ⟨-, rfl⟩ | ⟨-, rfl⟩ | ⟨-, rfl⟩ | ⟨src, rfl⟩ | rfl⟩ := exec_dispatch_cases h
  · exact .inl ⟨rfl, rfl⟩
  · exact .inl (by simp)
  · exact .inl ⟨rfl, rfl⟩
  · exact edgeService_frequencyMailbox (acknowledge .comp s)
  · exact .inl ⟨rfl, rfl⟩
  · exact .inl ⟨rfl, rfl⟩

/-- Settles O38: the ownership table leaves the contents and the setting of a flag to DISPATCH, which keeps a mailbox or
captures into it. -/
theorem unreadSamplesAreNeverOverwritten : Obligations.UnreadSamplesAreNeverOverwritten := by
  intro i s t h hi
  obtain ⟨hother, -, -, -, hready, htake, ftake, -⟩ := eachElementIsWrittenOnlyByItsOwners i s t h hi
  by_cases hd : i = .dispatch
  · subst hd
    obtain ⟨hkeep, hleft, hcapture⟩ : (s.tReady = true → t.tCount = s.tCount ∧ t.tEdges = s.tEdges ∧ t.tReady = true) ∧
        (t.tReady = false → t.tCount = s.tCount ∧ t.tEdges = s.tEdges) ∧
        (s.tReady = false → t.tReady = true → t.tCount = s.dtCount ∧ t.tEdges = s.pcnt) := by
      obtain ⟨hready, hcount, hedges⟩ | ⟨hready, hcount, hedges⟩ := exec_dispatch_timingMailbox h <;>
        simp +contextual [hready, hcount, hedges]
    obtain ⟨fkeep, fleft, fcapture⟩ : (s.fReady = true → t.fCount = s.fCount ∧ t.fReady = true) ∧
        (t.fReady = false → t.fCount = s.fCount) ∧ (s.fReady = false → t.fReady = true → t.fCount = s.dtCount) := by
      obtain ⟨hready, hcount⟩ | ⟨hready, hcount⟩ := exec_dispatch_frequencyMailbox h <;>
        simp +contextual [hready, hcount]
    refine ⟨fun hfull => ?_, fun hfull => ?_, fun hne => absurd rfl hne, hleft, fleft, hcapture, fcapture⟩
    · obtain ⟨hcount, hedges, hready⟩ := hkeep hfull
      exact ⟨hcount, hedges, fun _ => hready⟩
    · obtain ⟨hcount, hready⟩ := fkeep hfull
      exact ⟨hcount, fun _ => hready⟩
  · obtain ⟨-, -, -, -, -, -, -, -, hcount, hedges, hfreq, -⟩ := hother hd
    obtain ⟨hset, fset⟩ := hready hd
    exact ⟨fun hfull => ⟨hcount, hedges, fun hne => htake hne hfull⟩, fun hfull => ⟨hfreq, fun hne => ftake hne hfull⟩,
      fun _ => ⟨hcount, hedges, hfreq, hset, fset⟩, fun _ => ⟨hcount, hedges⟩, fun _ => hfreq,
      fun hempty hfull => absurd (hset hfull) (by simp [hempty]),
      fun hempty hfull => absurd (fset hfull) (by simp [hempty])⟩

/-- What every operation of a run keeps, the run keeps. -/
theorem execAll_induction {P : State → Prop} {is : List Instr}
    (hkeep : ∀ i ∈ is, ∀ s t, P s → exec i s = .next t → P t) (hs : P s) (h : execAll is s = .next t) : P t := by
  induction is generalizing s with
  | nil => cases h; exact hs
  | cons i is ih =>
    obtain ⟨u, hu, hrest⟩ := execAll_cons_next.mp h
    obtain ⟨hi, his⟩ := List.forall_mem_cons.mp hkeep
    exact ih his (hi s u hs hu) hrest

/-- 20_memory.md R58: a published timing sample waits unchanged for its take. -/
theorem execAll_keeps_timingSample {is : List Instr} (h : execAll is s = .next t) (hreset : Instr.reset ∉ is)
    (htake : Instr.takeT ∉ is) (hfull : s.tReady = true) :
    t.tReady = true ∧ t.tCount = s.tCount ∧ t.tEdges = s.tEdges := by
  refine execAll_induction (P := fun u => u.tReady = true ∧ u.tCount = s.tCount ∧ u.tEdges = s.tEdges)
    (fun i hi u v hu hexec => ?_) ⟨hfull, rfl, rfl⟩ h
  obtain ⟨hready, hcount, hedges⟩ := hu
  obtain ⟨hkeep, -⟩ := unreadSamplesAreNeverOverwritten i u v hexec (ne_of_mem_of_not_mem hi hreset)
  obtain ⟨hcount', hedges', hready'⟩ := hkeep hready
  exact ⟨hready' (ne_of_mem_of_not_mem hi htake), hcount'.trans hcount, hedges'.trans hedges⟩

/-- 20_memory.md R58: a published frequency sample waits unchanged for its take. -/
theorem execAll_keeps_frequencySample {is : List Instr} (h : execAll is s = .next t) (hreset : Instr.reset ∉ is)
    (htake : Instr.takeF ∉ is) (hfull : s.fReady = true) : t.fReady = true ∧ t.fCount = s.fCount := by
  refine execAll_induction (P := fun u => u.fReady = true ∧ u.fCount = s.fCount)
    (fun i hi u v hu hexec => ?_) ⟨hfull, rfl⟩ h
  obtain ⟨hready, hcount⟩ := hu
  obtain ⟨-, hkeep, -⟩ := unreadSamplesAreNeverOverwritten i u v hexec (ne_of_mem_of_not_mem hi hreset)
  obtain ⟨hcount', hready'⟩ := hkeep hready
  exact ⟨hready' (ne_of_mem_of_not_mem hi htake), hcount'.trans hcount⟩

/-- Settles O39: the sample is still in the mailbox when the take comes, and the take delivers what is there. -/
theorem delayedTakeReadsThePublishedSample : Obligations.DelayedTakeReadsThePublishedSample := by
  intro is s t h hreset hrun
  constructor
  · intro hfull htake
    obtain ⟨hready, hcount, hedges⟩ := execAll_keeps_timingSample h hreset htake hfull
    rw [← hcount, ← hedges]
    exact exec_takeT_next.mpr ⟨hrun, takeTiming_full hready⟩
  · intro hfull htake
    obtain ⟨hready, hcount⟩ := execAll_keeps_frequencySample h hreset htake hfull
    rw [← hcount]
    exact exec_takeF_next.mpr ⟨hrun, takeFrequency_full hready⟩

/-! ## The masked comparator -/

/-- R127: a masked edge fails the check that uses the enable, so only a PULSE_INACTIVE entry can write PeriodCounter or
the enable, and nothing the frequency mailbox. -/
theorem exec_dispatch_masked (huse : s.params.cmpCheckUsesEnable = true) (hmasked : s.cie = false)
    (h : exec .dispatch s = .next t) : t.fCount = s.fCount ∧ t.fReady = s.fReady ∧
      (t.cie = false ∧ t.pcnt = s.pcnt ∨ t.cie = true ∧ s.phase = .pulse ∧ t.phase = .pause ∧ t.pcnt = 0) := by
  obtain ⟨-, rfl | ⟨-, rfl⟩ | ⟨hphase, rfl⟩ | ⟨hcomp, rfl⟩ | ⟨src, rfl⟩ | rfl⟩ := exec_dispatch_cases h
  · exact ⟨rfl, rfl, .inl ⟨hmasked, rfl⟩⟩
  · rw [pulseActiveEntry_eq]; exact ⟨rfl, rfl, .inl ⟨rfl, rfl⟩⟩
  · exact ⟨rfl, rfl, .inr ⟨rfl, hphase, rfl, rfl⟩⟩
  · simp [chk_eq_true, huse, hmasked] at hcomp
  · exact ⟨rfl, rfl, .inl ⟨hmasked, rfl⟩⟩
  · exact ⟨rfl, rfl, .inl ⟨hmasked, rfl⟩⟩

/-- Settles O40: no operation but DISPATCH writes the elements named, and a DISPATCH while masked serves no edge. -/
theorem maskedComparatorPublishesNoFrequencySample : Obligations.MaskedComparatorPublishesNoFrequencySample := by
  intro i s t h hi huse hmasked
  by_cases hd : i = .dispatch
  · subst hd
    obtain ⟨hcount, hready, ⟨hcie, hpcnt⟩ | ⟨hcie, hpulse, hpause, hpcnt⟩⟩ := exec_dispatch_masked huse hmasked h
    · exact ⟨hcount, fun hfull => hready ▸ hfull, fun _ => hpcnt, fun hen => absurd hen (by simp [hcie])⟩
    · exact ⟨hcount, fun hfull => hready ▸ hfull, fun hen => absurd hcie (by simp [hen]),
        fun _ => ⟨rfl, hpulse, hpause, hpcnt⟩⟩
  · obtain ⟨hother, -, -, -, hready, -⟩ := eachElementIsWrittenOnlyByItsOwners i s t h hi
    obtain ⟨-, -, -, -, -, -, hpcnt, hcie, -, -, hfreq, -⟩ := hother hd
    obtain ⟨-, fset⟩ := hready hd
    exact ⟨hfreq, fset, fun _ => hpcnt, fun hen => absurd hen (by simp [hcie, hmasked])⟩

/-! ## The smoothers among events -/

/-- A push into a state with the smoothers of `s` writes what it writes into `s`. -/
theorem returnMaximum_pushTiming_withHostElements (n : Nat) (hp : t.params = s.params) :
    returnMaximum (pushTiming n (withHostElements s t)) = withHostElements (returnMaximum (pushTiming n s)) t := by
  rw [returnMaximum_pushTiming_congr (u := withHostElements s t) (s := s) hp rfl rfl rfl rfl rfl,
    returnMaximum_pushTiming_eq n s]
  rfl

/-- A push into a state with the smoothers of `s` writes what it writes into `s`. -/
theorem returnMean_pushFrequency_withHostElements (n : Nat) (hp : t.params = s.params) :
    returnMean (pushFrequency n (withHostElements s t)) = withHostElements (returnMean (pushFrequency n s)) t := by
  rw [returnMean_pushFrequency_congr (u := withHostElements s t) (s := s) hp rfl rfl rfl rfl rfl,
    returnMean_pushFrequency_eq n s]
  rfl

/-- An event carries along what a push writes, and keeps what it reads. -/
theorem exec_event_after_push {push : State → State} (he : i.issuer = .environment) (hi : i ≠ .reset)
    (hpush : ∀ v : State, v.params = s.params → push (withHostElements s v) = withHostElements (push s) v)
    (h : exec i s = .next t) : exec i (push s) = .next (push t) := by
  have hs : push s = withHostElements (push s) s := hpush s rfl
  have ht : push t = withHostElements (push s) t := by
    rw [← hpush t (exec_params h), ← exec_event_frame he hi h]
  rw [hs, ht]
  exact exec_event_withHostElements he hi h (push s)

theorem running_of_exec (hi : i ≠ .reset) (h : exec i s = .next t) : s.halted = false := by
  obtain ⟨hreset, -⟩ | ⟨hrun, -⟩ := exec_next_cases h
  · exact absurd hreset hi
  · exact hrun

/-- Settles O47: the event ran, so the block runs for the push before it too, and the event carries the push along. -/
theorem smootherPushesCommuteWithEvents : Obligations.SmootherPushesCommuteWithEvents := by
  intro e x s t he hreset
  simp only [execAll_cons_next, execAll_nil, Host.Outcome.next.injEq, exists_eq_right]
  constructor
  · rintro ⟨u, hu, hpush⟩
    obtain ⟨hx, -, rfl⟩ := exec_tsmooth_next.mp hpush
    rw [exec_params hu] at hx
    exact ⟨_, exec_tsmooth_next.mpr ⟨hx, running_of_exec hreset hu, rfl⟩, exec_event_after_push he hreset
      (push := fun v => returnMaximum (pushTiming x.toNat v))
      (fun _ => returnMaximum_pushTiming_withHostElements x.toNat) hu⟩
  · rintro ⟨u, hu, hpush⟩
    obtain ⟨hx, -, rfl⟩ := exec_fsmooth_next.mp hpush
    rw [exec_params hu] at hx
    exact ⟨_, exec_fsmooth_next.mpr ⟨hx, running_of_exec hreset hu, rfl⟩, exec_event_after_push he hreset
      (push := fun v => returnMean (pushFrequency x.toNat v))
      (fun _ => returnMean_pushFrequency_withHostElements x.toNat) hu⟩

end Sys2Proof.Machine
end

section
/-! Proofs of the statements about the values the smoothers give (43_smoothers.md): the maximum and the mean of the
slots (R142, R143, R146), and the way of the index around the ring (R147). -/

namespace Sys2Proof.Machine

open Sys2Proof.Safety

variable {s : State} {x : Operand}

/-! ## Pushes of a running block -/

theorem exec_tsmooth_running (hrun : s.halted = false) (hx : x.toNat < 2 ^ s.params.dw) :
    exec (.tsmooth x) s = .next (returnMaximum (pushTiming x.toNat s)) :=
  exec_tsmooth_next.mpr ⟨hx, hrun, rfl⟩

theorem exec_fsmooth_running (hrun : s.halted = false) (hx : x.toNat < 2 ^ s.params.dw) :
    exec (.fsmooth x) s = .next (returnMean (pushFrequency x.toNat s)) :=
  exec_fsmooth_next.mpr ⟨hx, hrun, rfl⟩

theorem withSample_wide {f : Nat → State → State} (hx : 2 ^ s.params.dw ≤ x.toNat) :
    withSample x s f = .refused .invalidOperationWord := by
  have hwide : ¬sampleFits s.params x = true := fun hfits => absurd (of_decide_eq_true hfits) (Nat.not_lt_of_le hx)
  exact if_neg hwide

/-- Settles O15: both pushes check the operand's width first. -/
theorem samplesWiderThanDWAreRefused : Obligations.SamplesWiderThanDWAreRefused :=
  fun _ _ hx => ⟨withSample_wide (f := fun v t => returnMaximum (pushTiming v t)) hx,
    withSample_wide (f := fun v t => returnMean (pushFrequency v t)) hx⟩

/-! ## The maximum -/

/-- Settles O43: the push keeps the invariant, so what it leaves as the maximum is the maximum of the slots it
leaves. -/
theorem tsmoothReturnsTheMaximumOfTheSlots : Obligations.TsmoothReturnsTheMaximumOfTheSlots := by
  intro x s hinv hrun hx
  obtain ⟨-, ⟨hlen, -⟩, -, -, hmax, -⟩ := blockInv_pushTiming hinv hx
  have hslots : (pushTiming x.toNat s).ringT ≠ [] :=
    List.ne_nil_of_length_pos (hlen ▸ (pushTiming x.toNat s).params.nr_pos)
  exact ⟨_, _, exec_tsmooth_running hrun hx, rfl, rfl, hmax ▸ ringMax_mem hslots, fun v hv => hmax ▸ le_ringMax hv⟩

/-- A value written into a ring that no slot exceeds becomes the ring's maximum (R143). -/
theorem ringMax_set {ring : List Nat} {k a : Nat} (hk : k < ring.length) (ha : ringMax ring ≤ a) :
    ringMax (ring.set k a) = a := by
  apply le_antisymm
  · refine ringMax_le fun v hv => ?_
    obtain hv | rfl := List.mem_or_eq_of_mem_set hv
    · exact (le_ringMax hv).trans ha
    · exact le_rfl
  · exact le_ringMax (List.mem_set hk a)

/-- Settles O44: the completed average goes into the slot at the index, and no other slot exceeds it. -/
theorem largestAverageBecomesTheMaximum : Obligations.LargestAverageBecomesTheMaximum := by
  intro x s hinv hrun hx hc hle
  obtain ⟨-, ⟨hlen, -, hidx, -⟩, -, -, hmax, -⟩ := hinv
  have hslot : s.idxT < s.ringT.length := hlen ▸ hidx
  have hnew := ringMax_set hslot (hmax ▸ hle)
  refine ⟨_, exec_tsmooth_running hrun hx, ?_⟩
  rw [pushTiming_complete hc]
  exact ⟨hnew, congrArg Result.value hnew, List.getElem?_set_self hslot⟩

/-! ## The mean -/

theorem slot_le_sum (ring : List Nat) (k : Nat) : ring.getD k 0 ≤ ring.sum := by
  by_cases hk : k < ring.length
  · rw [List.getD_eq_getElem _ _ hk]
    exact List.le_sum_of_mem (List.getElem_mem hk)
  · rw [List.getD_eq_default _ _ (Nat.le_of_not_lt hk)]
    exact Nat.zero_le _

/-- Settles O45: the running sum holds every slot, and the push keeps it the sum of the slots. -/
theorem fsmoothReturnsTheMeanOfTheSlots : Obligations.FsmoothReturnsTheMeanOfTheSlots := by
  intro x s hinv hrun hx
  have ⟨_, _, _, hsum, _⟩ := hinv
  obtain ⟨-, -, -, hsum', -⟩ := blockInv_pushFrequency hinv hx
  have hexec := exec_fsmooth_running hrun hx
  refine ⟨hsum ▸ slot_le_sum _ _, _, hexec, hsum', ?_⟩
  rw [← exec_params hexec]
  exact congrArg (fun sum => Result.value (sum / _)) hsum'

/-! ## The index around the ring -/

theorem advance_eq_mod {nr idx : Nat} (h : idx < nr) : advance nr idx = (idx + 1) % nr := by
  unfold advance
  split
  · rw [show idx + 1 = nr by omega, Nat.mod_self]
  · rw [Nat.mod_eq_of_lt (by omega)]

/-- Where one push leaves a smoother: the counter one further modulo `NB`, the index one further around the ring when
the counter wraps. -/
def Advances (nb nr cnt idx cnt' idx' : Nat) : Prop := cnt' = (cnt + 1) % nb ∧ idx' = (idx + (cnt + 1) / nb) % nr

theorem advances_complete {nb nr cnt idx : Nat} (hnb : 1 ≤ nb) (hc : cnt + 1 = nb) (hidx : idx < nr) :
    Advances nb nr cnt idx 0 (advance nr idx) := by
  rw [Advances, hc, Nat.mod_self, Nat.div_self hnb]
  exact ⟨rfl, advance_eq_mod hidx⟩

theorem advances_partial {nb nr cnt idx : Nat} (hcnt : cnt < nb) (hc : cnt + 1 ≠ nb) (hidx : idx < nr) :
    Advances nb nr cnt idx (cnt + 1) idx := by
  have hlt : cnt + 1 < nb := Nat.lt_of_le_of_ne hcnt hc
  rw [Advances, Nat.mod_eq_of_lt hlt, Nat.div_eq_of_lt hlt, Nat.add_zero]
  exact ⟨rfl, (Nat.mod_eq_of_lt hidx).symm⟩

theorem advances_pushTiming (n : Nat) (hidx : s.idxT < s.params.nr) (hcnt : s.cntT < s.params.nb) :
    Advances s.params.nb s.params.nr s.cntT s.idxT (pushTiming n s).cntT (pushTiming n s).idxT := by
  by_cases hc : s.cntT + 1 = s.params.nb
  · rw [pushTiming_complete hc]
    exact advances_complete s.params.nb_pos hc hidx
  · rw [pushTiming_partial hc]
    exact advances_partial hcnt hc hidx

theorem advances_pushFrequency (n : Nat) (hidx : s.idxF < s.params.nr) (hcnt : s.cntF < s.params.nb) :
    Advances s.params.nb s.params.nr s.cntF s.idxF (pushFrequency n s).cntF (pushFrequency n s).idxF := by
  by_cases hc : s.cntF + 1 = s.params.nb
  · rw [pushFrequency_complete hc]
    exact advances_complete s.params.nb_pos hc hidx
  · rw [pushFrequency_partial hc]
    exact advances_partial hcnt hc hidx

/-- `k` pushes after one are `k + 1` pushes. -/
theorem positions_add {nb nr cnt idx k : Nat} (hnb : 1 ≤ nb) :
    ((cnt + 1) % nb + k) % nb = (cnt + (k + 1)) % nb ∧
    ((idx + (cnt + 1) / nb) % nr + ((cnt + 1) % nb + k) / nb) % nr = (idx + (cnt + (k + 1)) / nb) % nr := by
  have hsum : cnt + (k + 1) = (cnt + 1) % nb + k + nb * ((cnt + 1) / nb) := by
    have := Nat.mod_add_div (cnt + 1) nb
    omega
  constructor
  · rw [hsum, Nat.add_mul_mod_self_left]
  · rw [hsum, Nat.add_mul_div_left _ _ hnb, Nat.mod_add_mod, Nat.add_assoc, Nat.add_comm ((cnt + 1) / nb)]

/-- R147 for either smoother: `op` its push, `cnt` and `idx` its counter and index. -/
theorem execAll_pushes {op : Operand → Instr} {cnt idx : State → Nat}
    (hop : ∀ (x : Operand) (s : State), s.halted = false → x.toNat < 2 ^ s.params.dw → idx s < s.params.nr →
      cnt s < s.params.nb → ∃ t, exec (op x) s = .next t ∧ t.halted = false ∧
        Advances s.params.nb s.params.nr (cnt s) (idx s) (cnt t) (idx t))
    (xs : List Operand) (hrun : s.halted = false) (hxs : ∀ x ∈ xs, x.toNat < 2 ^ s.params.dw)
    (hidx : idx s < s.params.nr) (hcnt : cnt s < s.params.nb) :
    ∃ t, execAll (xs.map op) s = .next t ∧ cnt t = (cnt s + xs.length) % s.params.nb ∧
      idx t = (idx s + (cnt s + xs.length) / s.params.nb) % s.params.nr ∧
      (idx s = 0 → cnt s = 0 → xs.length = s.params.nr * s.params.nb → idx t = 0 ∧ cnt t = 0) := by
  suffices h : ∃ t, execAll (xs.map op) s = .next t ∧ cnt t = (cnt s + xs.length) % s.params.nb ∧
      idx t = (idx s + (cnt s + xs.length) / s.params.nb) % s.params.nr by
    obtain ⟨t, ht, hcnt', hidx'⟩ := h
    refine ⟨t, ht, hcnt', hidx', fun hidx0 hcnt0 hlen => ?_⟩
    rw [hcnt', hidx', hidx0, hcnt0, hlen, Nat.zero_add, Nat.zero_add, Nat.mul_div_cancel _ s.params.nb_pos]
    exact ⟨Nat.mod_self _, Nat.mul_mod_left _ _⟩
  induction xs generalizing s with
  | nil =>
    refine ⟨s, rfl, ?_, ?_⟩
    · rw [List.length_nil, Nat.add_zero, Nat.mod_eq_of_lt hcnt]
    · rw [List.length_nil, Nat.add_zero, Nat.div_eq_of_lt hcnt, Nat.add_zero, Nat.mod_eq_of_lt hidx]
  | cons x xs ih =>
    rw [List.forall_mem_cons] at hxs
    obtain ⟨u, hu, hrun', hcnt', hidx'⟩ := hop x s hrun hxs.1 hidx hcnt
    have hp := exec_params hu
    obtain ⟨t, ht, hcntt, hidxt⟩ := ih (s := u) hrun' (hp ▸ hxs.2)
      (by rw [hidx', hp]; exact Nat.mod_lt _ s.params.nr_pos) (by rw [hcnt', hp]; exact Nat.mod_lt _ s.params.nb_pos)
    obtain ⟨hadd, hadd'⟩ := positions_add (cnt := cnt s) (idx := idx s) (k := xs.length) (nr := s.params.nr)
      s.params.nb_pos
    refine ⟨t, execAll_cons_next.mpr ⟨u, hu, ht⟩, ?_, ?_⟩
    · rw [hcntt, hcnt', hp, hadd, List.length_cons]
    · rw [hidxt, hidx', hcnt', hp, hadd', List.length_cons]

/-- Settles O46: each push of either smoother moves its counter and index one step. -/
theorem ringIndexWrapsAfterAllBatches : Obligations.RingIndexWrapsAfterAllBatches := by
  intro xs s hrun hxs
  constructor
  · refine execAll_pushes (cnt := State.cntT) (idx := State.idxT) (fun x s hrun hx hidx hcnt => ?_) xs hrun hxs
    exact ⟨_, exec_tsmooth_running hrun hx, (pushTiming_sameFaultBits _ s).1.trans hrun,
      advances_pushTiming _ hidx hcnt⟩
  · refine execAll_pushes (cnt := State.cntF) (idx := State.idxF) (fun x s hrun hx hidx hcnt => ?_) xs hrun hxs
    exact ⟨_, exec_fsmooth_running hrun hx, (pushFrequency_sameFaultBits _ s).1.trans hrun,
      advances_pushFrequency _ hidx hcnt⟩

end Sys2Proof.Machine
end

section
/-! Proofs of the statements about the host table (44_host_commands.md R166, R167) and its call pattern
(43_smoothers.md R149). -/

namespace Sys2Proof.Machine

open Sys2Proof.Safety

variable {c d : HostContext} {s t : State} {h : HostStep} {i : Instr}

/-! ## A host step that issues a command -/

theorem hostTurn_of_command (hcommand : hostCommand c s.halted h = some i) (hexec : exec i s = .next t) :
    hostTurn h c s = .next (hostReceive t.res c h, t) := by
  simp [hostTurn, hcommand, hexec]

theorem hostTurn_of_no_command (hcommand : hostCommand c s.halted h = none) :
    hostTurn h c s = .next (hostInternal s.params c h, s) := by
  simp [hostTurn, hcommand]

/-- The host applies RESET only as the step R167 gives it for that. -/
theorem hostCommand_eq_reset {halted : Bool} (hcommand : hostCommand c halted h = some .reset) :
    h = .resetAfterHalt := by
  cases h with
  | h2 => cases hq : c.timingToPush <;> simp [hostCommand, hq] at hcommand
  | h5 => cases hq : c.frequencyToPush <;> cases hon : c.soundOn <;> simp [hostCommand, hq, hon] at hcommand
  | resetAfterHalt => rfl
  | _ => simp [hostCommand] at hcommand

/-! ## Detection -/

/-- Settles O49: H3 issues no command, and H5 none while SoundOn is true. -/
theorem detectionSetsSoundOnAndSilencesTheFrequencyPush :
    Obligations.DetectionSetsSoundOnAndSilencesTheFrequencyPush := by
  intro c s
  refine ⟨fun v rest htest => ?_, fun htest => ?_, fun hon => ?_⟩
  · rw [hostTurn_of_no_command rfl]
    simp [hostInternal, htest, detects]
  · rw [hostTurn_of_no_command rfl]
    simp [hostInternal, htest]
  · exact hostTurn_of_no_command (by simp [hostCommand, hon])

/-! ## Liberties -/

/-- Settles O53: a running block answers every command of the liberties, and a halted one none but RESET. -/
theorem hostLibertiesAreAlwaysOpen : Obligations.HostLibertiesAreAlwaysOpen := by
  refine ⟨fun c s hrun => ⟨?_, ?_, fun x hx => ⟨?_, ?_⟩, fun v => ?_, fun on => rfl⟩,
    fun c s hhalt => ⟨?_, fun h d t hne hturn => ?_⟩⟩
  · have htake : exec .takeT s = .next (takeTiming s) := exec_takeT_next.mpr ⟨hrun, rfl⟩
    refine ⟨_, _, hostTurn_of_command rfl htake, htake, ?_⟩
    rw [takeTiming_eq]
    exact ⟨rfl, rfl⟩
  · have htake : exec .takeF s = .next (takeFrequency s) := exec_takeF_next.mpr ⟨hrun, rfl⟩
    refine ⟨_, _, hostTurn_of_command rfl htake, htake, ?_⟩
    rw [takeFrequency_eq]
    exact ⟨rfl, rfl⟩
  · have hpush := exec_tsmooth_running hrun hx
    exact ⟨_, _, hostTurn_of_command (h := .pushTiming x) rfl hpush, hpush, rfl⟩
  · have hpush := exec_fsmooth_running hrun hx
    exact ⟨_, _, hostTurn_of_command (h := .pushFrequency x) rfl hpush, hpush, rfl⟩
  · have hset : exec (.setref v) s = .next (deliver .nothing { s with cmpref := v }) := exec_setref_next.mpr ⟨hrun, rfl⟩
    exact ⟨_, hostTurn_of_command (h := .setReference v) rfl hset, rfl, rfl⟩
  · have hreset : exec .reset s = .next (resetBlock s) := exec_reset_next.mpr rfl
    exact ⟨_, hostTurn_of_command (h := .resetAfterHalt) (by simp [hostCommand, hhalt]) hreset, hreset, rfl⟩
  · obtain ⟨-, -, rfl⟩ | ⟨i, hcommand, hexec, -⟩ := hostTurn_next_cases hturn
    · rfl
    · by_cases hi : i = .reset
      · subst hi
        exact absurd (hostCommand_eq_reset hcommand) hne
      · simp [running_of_exec hi hexec] at hhalt

/-! ## The host's samples stay within `DW` bits -/

/-- Every sample the host still has to use is below `m`. -/
def HostBounded (m : Nat) (c : HostContext) : Prop :=
  (∀ v ∈ c.timingToPush, v < m) ∧ (∀ v ∈ c.timingToTest, v < m) ∧ (∀ v ∈ c.frequencyToPush, v < m)

/-- A sample that a result delivers is below `m`. -/
def ResultBounded (m : Nat) : Result → Prop
  | .timing true n _ => n < m
  | .frequency true n => n < m
  | _ => True

variable {m : Nat}

theorem forall_mem_concat_lt {l : List Nat} {n : Nat} (hl : ∀ v ∈ l, v < m) (hn : n < m) : ∀ v ∈ l ++ [n], v < m :=
  List.forall_mem_append.mpr ⟨hl, List.forall_mem_singleton.mpr hn⟩

theorem forall_mem_tail_lt {l : List Nat} (hl : ∀ v ∈ l, v < m) : ∀ v ∈ l.tail, v < m :=
  fun v hv => hl v (List.mem_of_mem_tail hv)

theorem hostBounded_internal {p : Params} (hc : HostBounded m c) : HostBounded m (hostInternal p c h) := by
  obtain ⟨hpush, htest, hfreq⟩ := hc
  cases h with
  | h3 =>
    cases hq : c.timingToTest with
    | nil => simpa [hostInternal, hq] using ⟨hpush, htest, hfreq⟩
    | cons v rest =>
      rw [hq] at htest
      simpa [hostInternal, hq] using ⟨hpush, (List.forall_mem_cons.mp htest).2, hfreq⟩
  | _ => exact ⟨hpush, htest, hfreq⟩

/-- A take adds the sample delivered to the lists, a push uses one up. -/
theorem hostBounded_receive {r : Result} (hc : HostBounded m c) (hr : ResultBounded m r) :
    HostBounded m (hostReceive r c h) := by
  obtain ⟨hpush, htest, hfreq⟩ := hc
  cases h <;> simp only [hostReceive]
  case h1 =>
    split
    · exact ⟨forall_mem_concat_lt hpush hr, forall_mem_concat_lt htest hr, hfreq⟩
    · exact ⟨hpush, htest, hfreq⟩
  case h4 =>
    split
    · unfold HostContext.takeFrequency
      split
      · exact ⟨hpush, htest, hfreq⟩
      · exact ⟨hpush, htest, forall_mem_concat_lt hfreq hr⟩
    · exact ⟨hpush, htest, hfreq⟩
  case h2 =>
    split
    · exact ⟨forall_mem_tail_lt hpush, htest, hfreq⟩
    · exact ⟨hpush, htest, hfreq⟩
  case h5 =>
    split
    · exact ⟨hpush, htest, forall_mem_tail_lt hfreq⟩
    · exact ⟨hpush, htest, hfreq⟩
  case pushTiming | pushFrequency => split <;> exact ⟨hpush, htest, hfreq⟩
  all_goals exact ⟨hpush, htest, hfreq⟩

theorem exec_resultBounded (hinv : BlockInv s) (hi : i.issuer = .host) (hexec : exec i s = .next t) :
    ResultBounded (2 ^ s.params.dw) t.res := by
  obtain ⟨⟨-, htime, hfreq, -⟩, -⟩ := hinv
  cases i
  case takeT =>
    obtain ⟨-, rfl⟩ := exec_takeT_next.mp hexec
    by_cases hfull : s.tReady = true
    · rw [takeTiming_full hfull]; exact htime
    · rw [takeTiming_empty hfull]; trivial
  case takeF =>
    obtain ⟨-, rfl⟩ := exec_takeF_next.mp hexec
    by_cases hfull : s.fReady = true
    · rw [takeFrequency_full hfull]; exact hfreq
    · rw [takeFrequency_empty hfull]; trivial
  case tsmooth x => obtain ⟨-, -, rfl⟩ := exec_tsmooth_next.mp hexec; trivial
  case fsmooth x => obtain ⟨-, -, rfl⟩ := exec_fsmooth_next.mp hexec; trivial
  case setref v => obtain ⟨-, rfl⟩ := exec_setref_next.mp hexec; trivial
  all_goals cases hi

/-! ## Every step of the host table -/

/-- A sample below `2 ^ DW` is pushed as it is: it fits the operand field. -/
theorem head_operand_lt {l : List Nat} {x : Operand} (hl : ∀ v ∈ l, v < m)
    (hx : l.head?.map (BitVec.ofNat 24) = some x) :
    x.toNat < m := by
  obtain ⟨v, hv, rfl⟩ := Option.map_eq_some_iff.mp hx
  rw [BitVec.toNat_ofNat]
  exact (Nat.mod_le _ _).trans_lt (hl v (List.mem_of_head? hv))

/-- While the block runs the host issues host commands alone, and operands of `DW` bits alone. -/
theorem hostCommand_running {p : Params} (hc : HostBounded (2 ^ p.dw) c)
    (hliberty : ∀ x, h = .pushTiming x ∨ h = .pushFrequency x → x.toNat < 2 ^ p.dw)
    (hcommand : hostCommand c false h = some i) : i.issuer = .host ∧ i.wellFormed p = true := by
  obtain ⟨hpush, -, hfreq⟩ := hc
  cases h
  case h2 =>
    obtain ⟨v, hv, rfl⟩ := Option.map_eq_some_iff.mp hcommand
    exact ⟨rfl, decide_eq_true (head_operand_lt hpush (by rw [hv]; rfl))⟩
  case h5 =>
    simp only [hostCommand] at hcommand
    split at hcommand
    · cases hcommand
    · obtain ⟨v, hv, rfl⟩ := Option.map_eq_some_iff.mp hcommand
      exact ⟨rfl, decide_eq_true (head_operand_lt hfreq (by rw [hv]; rfl))⟩
  case pushTiming x => cases hcommand; exact ⟨rfl, decide_eq_true (hliberty x (.inl rfl))⟩
  case pushFrequency x => cases hcommand; exact ⟨rfl, decide_eq_true (hliberty x (.inr rfl))⟩
  case h1 | h4 | setReference => cases hcommand; exact ⟨rfl, rfl⟩
  all_goals cases hcommand

/-- A host command does not halt the block (R200). -/
theorem exec_host_running (hi : i.issuer = .host) (hexec : exec i s = .next t) : t.halted = false := by
  obtain ⟨rfl, -⟩ | ⟨hrun, ⟨hhalt, -⟩ | ⟨rfl, -⟩⟩ := exec_faultBits_cases hexec
  · cases hi
  · exact hhalt.trans hrun
  · cases hi

/-- Settles O48: a step issues no command, or one that a running block answers; its result is within the widths the
invariant keeps. -/
theorem hostStepsCompleteAndKeepTheInvariant : Obligations.HostStepsCompleteAndKeepTheInvariant := by
  intro h c s hinv hrun hliberty hpush htest hfreq
  have hc : HostBounded (2 ^ s.params.dw) c := ⟨hpush, htest, hfreq⟩
  cases hcommand : hostCommand c s.halted h with
  | none => exact ⟨_, s, hostTurn_of_no_command hcommand, hinv, hrun, rfl, hostBounded_internal hc⟩
  | some i =>
    obtain ⟨hi, hwf⟩ := hostCommand_running hc hliberty (hrun ▸ hcommand)
    obtain ⟨t, hexec⟩ := exec_running hrun hwf
    exact ⟨_, t, hostTurn_of_command hcommand hexec, exec_keeps_blockInv hinv hexec, exec_host_running hi hexec,
      exec_params hexec, hostBounded_receive hc (exec_resultBounded hinv hi hexec)⟩

/-! ## The call pattern -/

theorem hostReceive_timingToPush {r : Result} (h1 : h ≠ .h1) (h2 : h ≠ .h2) :
    (hostReceive r c h).timingToPush = c.timingToPush := by
  cases h
  case h1 => exact absurd rfl h1
  case h2 => exact absurd rfl h2
  case h4 | h5 | pushTiming | pushFrequency => simp only [hostReceive]; split <;> simp
  all_goals rfl

theorem hostReceive_frequencyToPush {r : Result} (h4 : h ≠ .h4) (h5 : h ≠ .h5) :
    (hostReceive r c h).frequencyToPush = c.frequencyToPush := by
  cases h
  case h4 => exact absurd rfl h4
  case h5 => exact absurd rfl h5
  case h1 | h2 | pushTiming | pushFrequency => simp only [hostReceive]; split <;> simp
  all_goals rfl

/-- One turn's part of R149: the samples waiting before it and those it takes are those it pushes and those waiting
after it, in order. -/
def Balanced (queue : HostContext → List Nat) (taken : Turn → HostContext → State → List Nat)
    (pushed : Turn → HostContext → State → List Operand) (u : Turn) (c : HostContext) (s : State)
    (d : HostContext) : Prop :=
  (queue c ++ taken u c s).map (BitVec.ofNat 24) = pushed u c s ++ (queue d).map (BitVec.ofNat 24)

/-- A turn that takes nothing, pushes nothing and leaves what waits. -/
theorem balanced_of_idle {queue : HostContext → List Nat} {taken : Turn → HostContext → State → List Nat}
    {pushed : Turn → HostContext → State → List Operand} {u : Turn} (htaken : taken u c s = [])
    (hpushed : pushed u c s = []) (hqueue : queue d = queue c) : Balanced queue taken pushed u c s d := by
  rw [Balanced, htaken, hpushed, hqueue, List.append_nil, List.nil_append]

/-- A run of balanced turns is balanced. -/
theorem record_balanced {queue : HostContext → List Nat} {taken : Turn → HostContext → State → List Nat}
    {pushed : Turn → HostContext → State → List Operand}
    (hturn : ∀ u c s d t, takeTurn u c s = .next (d, t) → Balanced queue taken pushed u c s d)
    (us : List Turn) (hrun : hostRun us c s = .next (d, t)) :
    (queue c ++ record taken us c s).map (BitVec.ofNat 24) =
      record pushed us c s ++ (queue d).map (BitVec.ofNat 24) := by
  induction us generalizing c s with
  | nil =>
    cases hrun
    simp
  | cons u us ih =>
    obtain ⟨c', s', hu, hrest⟩ := hostRun_cons_next.mp hrun
    rw [record_cons_of_next hu, record_cons_of_next hu, ← List.append_assoc, List.map_append, hturn u c s c' s' hu,
      List.append_assoc, ← List.map_append, ih hrest, List.append_assoc]

theorem timingTaken_of_ne {u : Turn} (hu : u ≠ .host .h1) : timingTaken u c s = [] :=
  if_neg fun hall => hu hall.1

theorem frequencyTakenSilent_of_ne {u : Turn} (hu : u ≠ .host .h4) : frequencyTakenSilent u c s = [] :=
  if_neg fun hall => hu hall.1

theorem timingPushed_of_ne (hh : h ≠ .h2) : timingPushed (.host h) c s = [] := by
  cases h
  case h2 => exact absurd rfl hh
  all_goals rfl

theorem frequencyPushed_of_ne (hh : h ≠ .h5) : frequencyPushed (.host h) c s = [] := by
  cases h
  case h5 => exact absurd rfl hh
  all_goals rfl

/-- H1 appends the sample it takes (R161). -/
theorem timing_take_balanced (hturn : hostTurn .h1 c s = .next (d, t)) :
    Balanced HostContext.timingToPush timingTaken timingPushed (.host .h1) c s d := by
  obtain ⟨hnone, -⟩ | ⟨i, hcommand, hexec, rfl⟩ := hostTurn_next_cases hturn
  · cases hnone
  cases hcommand
  obtain ⟨-, rfl⟩ := exec_takeT_next.mp hexec
  by_cases hfull : s.tReady = true
  · rw [takeTiming_full hfull, Balanced]
    simp [timingTaken, timingPushed, hfull, hostReceive_takeT_full]
  · rw [takeTiming_empty hfull]
    exact balanced_of_idle (if_neg fun hall => hfull hall.2) rfl rfl

/-- H2 pushes the oldest sample waiting and uses it up (R166). -/
theorem timing_push_balanced (hturn : hostTurn .h2 c s = .next (d, t)) :
    Balanced HostContext.timingToPush timingTaken timingPushed (.host .h2) c s d := by
  have htaken : timingTaken (.host .h2) c s = [] := timingTaken_of_ne (by decide)
  obtain ⟨hnone, rfl, -⟩ | ⟨i, hcommand, hexec, rfl⟩ := hostTurn_next_cases hturn
  · exact balanced_of_idle htaken (by simp [timingPushed, hnone]) rfl
  · obtain ⟨v, hv, rfl⟩ := Option.map_eq_some_iff.mp hcommand
    obtain ⟨rest, hqueue⟩ := List.head?_eq_some_iff.mp hv
    obtain ⟨-, -, rfl⟩ := exec_tsmooth_next.mp hexec
    have hpushed : timingPushed (.host .h2) c s = [BitVec.ofNat 24 v] := by simp [timingPushed, hcommand]
    have hleft : (hostReceive (returnMaximum (pushTiming (BitVec.ofNat 24 v).toNat s)).res c .h2).timingToPush = rest :=
      congrArg List.tail hqueue
    rw [Balanced, htaken, hpushed, hleft, hqueue, List.append_nil, List.map_cons, List.singleton_append]

theorem timing_turn_balanced (u : Turn) (c : HostContext) (s : State) (d : HostContext) (t : State)
    (hu : takeTurn u c s = .next (d, t)) : Balanced HostContext.timingToPush timingTaken timingPushed u c s d := by
  cases u with
  | event i =>
    obtain ⟨-, rfl⟩ := takeTurn_event_next.mp hu
    exact balanced_of_idle (timingTaken_of_ne nofun) rfl rfl
  | host h =>
    by_cases h1 : h = .h1
    · subst h1
      exact timing_take_balanced hu
    by_cases h2 : h = .h2
    · subst h2
      exact timing_push_balanced hu
    refine balanced_of_idle (timingTaken_of_ne (by simpa using h1)) (timingPushed_of_ne h2) ?_
    obtain ⟨-, rfl, -⟩ | ⟨i, -, -, rfl⟩ := hostTurn_next_cases hu
    · exact hostInternal_toPush.1
    · exact hostReceive_timingToPush h1 h2

/-- H4 appends the sample it takes while SoundOn is false (R162, R149). -/
theorem frequency_take_balanced (hturn : hostTurn .h4 c s = .next (d, t)) :
    Balanced HostContext.frequencyToPush frequencyTakenSilent frequencyPushed (.host .h4) c s d := by
  obtain ⟨hnone, -⟩ | ⟨i, hcommand, hexec, rfl⟩ := hostTurn_next_cases hturn
  · cases hnone
  cases hcommand
  obtain ⟨-, rfl⟩ := exec_takeF_next.mp hexec
  by_cases hfull : s.fReady = true
  · rw [takeFrequency_full hfull, Balanced]
    cases hon : c.soundOn <;> simp [frequencyTakenSilent, frequencyPushed, hfull, hon, hostReceive_takeF_full]
  · rw [takeFrequency_empty hfull]
    exact balanced_of_idle (if_neg fun hall => hfull hall.2.1) rfl rfl

/-- H5 pushes the oldest sample waiting, when SoundOn is false, and uses it up (R166). -/
theorem frequency_push_balanced (hturn : hostTurn .h5 c s = .next (d, t)) :
    Balanced HostContext.frequencyToPush frequencyTakenSilent frequencyPushed (.host .h5) c s d := by
  have htaken : frequencyTakenSilent (.host .h5) c s = [] := frequencyTakenSilent_of_ne (by decide)
  obtain ⟨hnone, rfl, -⟩ | ⟨i, hcommand, hexec, rfl⟩ := hostTurn_next_cases hturn
  · exact balanced_of_idle htaken (by simp [frequencyPushed, hnone]) rfl
  · have hsilent : c.soundOn = false := by
      by_contra hon
      simp [hostCommand, hon] at hcommand
    obtain ⟨v, hv, rfl⟩ : ∃ v, c.frequencyToPush.head? = some v ∧ .fsmooth (BitVec.ofNat 24 v) = i := by
      simpa [hostCommand, hsilent] using hcommand
    obtain ⟨rest, hqueue⟩ := List.head?_eq_some_iff.mp hv
    obtain ⟨-, -, rfl⟩ := exec_fsmooth_next.mp hexec
    have hpushed : frequencyPushed (.host .h5) c s = [BitVec.ofNat 24 v] := by simp [frequencyPushed, hcommand]
    have hleft : (hostReceive (returnMean (pushFrequency (BitVec.ofNat 24 v).toNat s)).res c .h5).frequencyToPush =
        rest := congrArg List.tail hqueue
    rw [Balanced, htaken, hpushed, hleft, hqueue, List.append_nil, List.map_cons, List.singleton_append]

theorem frequency_turn_balanced (u : Turn) (c : HostContext) (s : State) (d : HostContext) (t : State)
    (hu : takeTurn u c s = .next (d, t)) :
    Balanced HostContext.frequencyToPush frequencyTakenSilent frequencyPushed u c s d := by
  cases u with
  | event i =>
    obtain ⟨-, rfl⟩ := takeTurn_event_next.mp hu
    exact balanced_of_idle (frequencyTakenSilent_of_ne nofun) rfl rfl
  | host h =>
    by_cases h4 : h = .h4
    · subst h4
      exact frequency_take_balanced hu
    by_cases h5 : h = .h5
    · subst h5
      exact frequency_push_balanced hu
    refine balanced_of_idle (frequencyTakenSilent_of_ne (by simpa using h4)) (frequencyPushed_of_ne h5) ?_
    obtain ⟨-, rfl, -⟩ | ⟨i, -, -, rfl⟩ := hostTurn_next_cases hu
    · exact hostInternal_toPush.2
    · exact hostReceive_frequencyToPush h4 h5

/-- Settles O52: every turn is balanced for both smoothers, whoever issues the operations of its events. -/
theorem eachTakenSampleIsPushedOnce : Obligations.EachTakenSampleIsPushedOnce :=
  fun us _ _ _ _ hrun _ => ⟨record_balanced timing_turn_balanced us hrun,
    record_balanced frequency_turn_balanced us hrun⟩

end Sys2Proof.Machine
end

section
/-! Proofs of the statements about the assembler (30_encoding.md section 4): what it emits is valid (R76), and what the
repetition and the pseudo-instructions stand for (R77). -/

namespace Sys2Proof.Machine

variable {p : Params} {line : String} {lines : List String} {done is : List Instr} {outer : List (Nat × List Instr)}

/-! ## One line -/

theorem assembleLines_operations (h : assembleWords p (lineWords line) = some (.operations is)) :
    assembleLines p done outer (line :: lines) = assembleLines p (done ++ is) outer lines := by
  simp [assembleLines, h]

theorem assembleLines_rep {n : Nat} (h : assembleWords p (lineWords line) = some (.rep n)) :
    assembleLines p done outer (line :: lines) = assembleLines p [] ((n, done) :: outer) lines := by
  simp [assembleLines, h]

theorem assembleLines_endr {n : Nat} {before : List Instr} (h : assembleWords p (lineWords line) = some .endr) :
    assembleLines p done ((n, before) :: outer) (line :: lines) =
      assembleLines p (before ++ (List.replicate n done).flatten) outer lines := by
  simp [assembleLines, h]

/-- A first line that is accepted gives operations, opens a repetition, or closes the innermost open one. -/
theorem assembleLines_cons_cases {js : List Instr} (h : assembleLines p done outer (line :: lines) = some js) :
    (∃ is, assembleWords p (lineWords line) = some (.operations is) ∧
      assembleLines p (done ++ is) outer lines = some js) ∨
    (∃ n, assembleWords p (lineWords line) = some (.rep n) ∧ assembleLines p [] ((n, done) :: outer) lines = some js) ∨
    (assembleWords p (lineWords line) = some .endr ∧ ∃ n before rest, outer = (n, before) :: rest ∧
      assembleLines p (before ++ (List.replicate n done).flatten) rest lines = some js) := by
  cases hline : assembleWords p (lineWords line) with
  | none => simp [assembleLines, hline] at h
  | some l =>
    cases l with
    | operations is => exact .inl ⟨is, rfl, assembleLines_operations hline ▸ h⟩
    | rep n => exact .inr (.inl ⟨n, rfl, assembleLines_rep hline ▸ h⟩)
    | endr =>
      cases outer with
      | nil => simp [assembleLines, hline] at h
      | cons f rest => exact .inr (.inr ⟨rfl, f.1, f.2, rest, rfl, assembleLines_endr hline ▸ h⟩)

/-! ## Every word emitted is valid -/

/-- Every operation of a list is one of the block's (R73). -/
def AllWellFormed (p : Params) (is : List Instr) : Prop := ∀ i ∈ is, i.wellFormed p = true

theorem allWellFormed_nil : AllWellFormed p [] := List.forall_mem_nil _

theorem AllWellFormed.append {js : List Instr} (his : AllWellFormed p is) (hjs : AllWellFormed p js) :
    AllWellFormed p (is ++ js) :=
  List.forall_mem_append.mpr ⟨his, hjs⟩

theorem AllWellFormed.flatten_replicate (his : AllWellFormed p is) (n : Nat) :
    AllWellFormed p (List.replicate n is).flatten := by
  intro i hi
  obtain ⟨l, hl, hil⟩ := List.mem_flatten.mp hi
  exact his i (List.eq_of_mem_replicate hl ▸ hil)

theorem allWellFormed_replicate {i : Instr} (hi : i.wellFormed p = true) (n : Nat) :
    AllWellFormed p (List.replicate n i) :=
  fun _ hj => List.eq_of_mem_replicate hj ▸ hi

theorem allWellFormed_singleton {i : Instr} (hi : i.wellFormed p = true) : AllWellFormed p [i] :=
  allWellFormed_replicate hi 1

/-- R76: an X operand that does not fit is refused and not truncated. -/
theorem sampleOperand_lt {word : String} {x : Operand} (h : sampleOperand p word = some x) : x.toNat < 2 ^ p.dw := by
  obtain ⟨n, -, hn⟩ := Option.bind_eq_some_iff.mp h
  split at hn
  next hlt =>
    cases hn
    rw [BitVec.toNat_ofNat]
    exact (Nat.mod_le _ _).trans_lt hlt
  next => cases hn

/-- R76 and R77, form by form: only the X operands are to be checked. -/
theorem assembleWords_wellFormed {ws : List String} (h : assembleWords p ws = some (.operations is)) :
    AllWellFormed p is := by
  unfold assembleWords at h
  split at h
  case h_1 => cases h; exact allWellFormed_nil
  case h_4 | h_5 =>
    obtain ⟨x, hx, h⟩ := Option.map_eq_some_iff.mp h
    cases h
    exact allWellFormed_singleton (decide_eq_true (sampleOperand_lt hx))
  case h_6 | h_8 | h_15 =>
    obtain ⟨v, -, h⟩ := Option.map_eq_some_iff.mp h
    cases h
    exact allWellFormed_singleton rfl
  case h_17 | h_18 =>
    cases h
    exact AllWellFormed.append (allWellFormed_singleton rfl) (allWellFormed_singleton rfl)
  case h_19 =>
    obtain ⟨k, -, h⟩ := Option.bind_eq_some_iff.mp h
    obtain ⟨g, -, h⟩ := Option.map_eq_some_iff.mp h
    cases h
    exact allWellFormed_replicate rfl k
  case h_20 | h_21 =>
    obtain ⟨x, hx, h⟩ := Option.map_eq_some_iff.mp h
    cases h
    exact allWellFormed_replicate (by exact decide_eq_true (sampleOperand_lt hx)) p.nb
  case h_22 =>
    obtain ⟨n, -, h⟩ := Option.map_eq_some_iff.mp h
    cases h
  case h_23 | h_24 => cases h
  all_goals
    cases h
    exact allWellFormed_singleton rfl

/-- The operations of the block being read and of those it stands in stay well formed, line by line. -/
theorem assembleLines_wellFormed {js : List Instr} (hdone : AllWellFormed p done)
    (houter : ∀ f ∈ outer, AllWellFormed p f.2) (h : assembleLines p done outer lines = some js) :
    AllWellFormed p js := by
  induction lines generalizing done outer with
  | nil =>
    simp only [assembleLines] at h
    split at h
    · cases h; exact hdone
    · cases h
  | cons line lines ih =>
    obtain ⟨is, hline, hlines⟩ | ⟨n, -, hlines⟩ | ⟨-, n, before, rest, rfl, hlines⟩ := assembleLines_cons_cases h
    · exact ih (hdone.append (assembleWords_wellFormed hline)) houter hlines
    · exact ih allWellFormed_nil (List.forall_mem_cons.mpr ⟨hdone, houter⟩) hlines
    · obtain ⟨hbefore, hrest⟩ := List.forall_mem_cons.mp houter
      exact ih (hbefore.append (hdone.flatten_replicate n)) hrest hlines

/-- Settles O50: the words emitted are those of well-formed operations, which decode to them. -/
theorem assembledWordsAreValid : Obligations.AssembledWordsAreValid := by
  intro p lines ws h w hw
  obtain ⟨is, his, rfl⟩ := Option.map_eq_some_iff.mp h
  obtain ⟨i, hi, rfl⟩ := List.mem_map.mp hw
  exact ⟨i, decodeOfEncodeIsIdentity p i (assembleLines_wellFormed allWellFormed_nil (List.forall_mem_nil _) his i hi)⟩

/-! ## The repetition and the pseudo-instructions -/

/-- What the assembler holds, when what it held alone (the operations `d` of the innermost open block, and the
repetitions it stands in) is read beneath the operations `done` and the repetitions `outer` of the lines before. -/
def beneath (done : List Instr) (outer : List (Nat × List Instr)) (d : List Instr) :
    List (Nat × List Instr) → List Instr × List (Nat × List Instr)
  | [] => (done ++ d, outer)
  | (n, before) :: rest => (d, (n, (beneath done outer before rest).1) :: (beneath done outer before rest).2)

theorem beneath_append (d js : List Instr) (inner : List (Nat × List Instr)) :
    beneath done outer (d ++ js) inner = ((beneath done outer d inner).1 ++ js, (beneath done outer d inner).2) := by
  cases inner with
  | nil => simp [beneath]
  | cons f rest => rfl

/-- Lines that assemble on their own give the same operations after other lines, and the lines after them go on from
there. -/
theorem assembleLines_beneath {d js : List Instr} {inner : List (Nat × List Instr)} {body : List String}
    (h : assembleLines p d inner body = some js) (rest : List String) :
    assembleLines p (beneath done outer d inner).1 (beneath done outer d inner).2 (body ++ rest) =
      assembleLines p (done ++ js) outer rest := by
  induction body generalizing d inner with
  | nil =>
    cases inner with
    | nil => cases h; rfl
    | cons f fs => cases h
  | cons line body ih =>
    rw [List.cons_append]
    obtain ⟨is, hline, hbody⟩ | ⟨n, hline, hbody⟩ | ⟨hline, n, before, fs, rfl, hbody⟩ := assembleLines_cons_cases h
    · rw [assembleLines_operations hline, ← ih hbody, beneath_append]
    · rw [assembleLines_rep hline, ← ih hbody, beneath]
    · rw [beneath, assembleLines_endr hline, ← ih hbody, beneath_append]

/-- Lines that assemble on their own, read after the operations `done` and within the repetitions `outer`. -/
theorem assembleLines_append {body : List String} (h : assembleLines p [] [] body = some is) (rest : List String) :
    assembleLines p done outer (body ++ rest) = assembleLines p (done ++ is) outer rest := by
  have hbody := assembleLines_beneath (done := done) (outer := outer) h rest
  rwa [beneath, List.append_nil] at hbody

theorem assembleLines_repetition {n : String} {k : Nat} {opening closing : String} {body after : List String}
    {js : List Instr} (hn : number n = some k) (hopen : lineWords opening = [".rep", n])
    (hclose : lineWords closing = [".endr"]) (hbody : assembleLines p [] [] body = some is)
    (hafter : assembleLines p [] [] after = some js) :
    assembleLines p [] [] (opening :: body ++ closing :: after) = some ((List.replicate k is).flatten ++ js) := by
  have hrep : assembleWords p (lineWords opening) = some (.rep k) := by simp [hopen, assembleWords, hn]
  have hendr : assembleWords p (lineWords closing) = some .endr := by simp [hclose, assembleWords]
  have hrest := assembleLines_append (done := (List.replicate k is).flatten) (outer := []) hafter []
  rw [List.append_nil] at hrest
  rw [List.cons_append, assembleLines_rep hrep, assembleLines_append hbody, assembleLines_endr hendr, List.nil_append,
    List.nil_append, hrest]
  rfl

/-- Settles O51: the body assembles beneath its open repetition as alone, and every other line is one form of R77. -/
theorem pseudoInstructionsExpandAsListed : Obligations.PseudoInstructionsExpandAsListed := by
  intro p n x k v hn hx
  have hone : bitOperand "1" = some true := by decide
  have hzero : bitOperand "0" = some false := by decide
  refine ⟨fun _ _ _ _ _ _ hopen hclose => assembleLines_repetition hn hopen hclose, rfl, rfl, ?_, ?_, ?_, ?_⟩
  · simp [assembleWords, hn, hone]
  · simp [assembleWords, hn, hzero]
  · simp [assembleWords, hx]
  · simp [assembleWords, hx]

end Sys2Proof.Machine
end

section
/-! Proofs of the statements about one step (10_state.md R21, 70_reset_and_hazards.md R220, R221): the next operation of
the stream, waiting, and RESET. -/

namespace Sys2Proof.Machine

/-- Settles O7: the step's two matches. -/
theorem stepRunsTheNextDecodedOperation : Obligations.StepRunsTheNextDecodedOperation := by
  intro s w rest i hops hdec
  simp [step, hops, hdec]

/-- Settles O8: the step's first match. -/
theorem stepWaitsWithNoOperation : Obligations.StepWaitsWithNoOperation := by
  intro s hops
  simp [step, hops]

/-- Settles O30: the two unspecified elements take the next draw. -/
theorem resetGivesR0InEveryState : Obligations.ResetGivesR0InEveryState :=
  ⟨by decide, fun s => ⟨Config.freeDriveCfg s.draws, Config.freeDecayPresc s.draws, rfl⟩⟩

end Sys2Proof.Machine
end
